-- ==== Sys2Proof/Word.lean ====
section
/-!
DEFINITION. The value types of the block (spec/00_scope.md R8, R9): bytes, the 16-bit and 32-bit words, and byte
strings. All values are unsigned; a byte string is a list whose element 0 is the first byte on the wire.
-/

namespace Sys2Proof

/-- One byte on the wire (R8, R9). -/
abbrev Byte := BitVec 8

/-- The 16-bit words: CRC values, `vout`, `STATUS`, the expected response length (R8). -/
abbrev Word16 := BitVec 16

/-- The 32-bit host command word (R80). -/
abbrev Word32 := BitVec 32

/-- A byte string (R9); index 0 is the first byte on the wire. -/
abbrev Bytes := List Byte

end Sys2Proof
end

