-- ==== Sys2Proof/Config.lean ====
section
/-!
DEFINITION. The implementation parameters of spec/00_scope.md R6. Each is a field of `Config`, which a machine state
carries unchanged for a whole run, so that a statement about every state is a statement about every configuration; the
two that spec/93_implementation_defined.md fixes (I8, I9) are constants. The constraints of R7 are
`Machine.configValid` (Machine/Params.lean).
-/

namespace Sys2Proof

/-- `CRC_XOROUT` (R6), fixed by decision D10 (93_implementation_defined.md I8). -/
def crcXorOut : Word16 := 0x0000#16

/-- `WTX_MARKER` (R6, R75): the first byte of an inbound WTX request; fixed (93_implementation_defined.md I9). -/
def wtxMarker : Byte := 0xF2#8

/-- A ceiling that is a natural number or `INF` (R6). -/
inductive Bound where
  | fin (n : Nat)
  | inf
deriving DecidableEq, Repr

/-- The parameters of R6: configuration, fixed for a run (R42). -/
structure Config where
  /-- `CRC_POLY_REFLECTED`: the reflected CRC polynomial. -/
  crcPoly : Word16
  /-- `CRC_SEED`: the CRC register for a fresh frame. -/
  crcSeed : Word16
  /-- `PCB_S_DESELECT`: the PCB of S(DESELECT) (R73). -/
  pcbSDeselect : Byte
  /-- `PCB_S_WTX`: the PCB of the S(WTX) acknowledgement (R74). -/
  pcbSWtx : Byte
  /-- `P_IPCB_BASE`: the I-block PCB when the toggle bit is 0 (D1). -/
  iPcbBase : Byte
  /-- `P_SREQ_WORD`: the session-request control word (D2). -/
  sreqWord : Bytes
  /-- `P_DEV_ADDR`: the device's bus address; the source gives no width (D3, R25). -/
  devAddr : Nat
  /-- `P_MAX_FRAME`: the most bytes of a frame, PCB to last CRC byte (D4). -/
  maxFrame : Nat
  /-- `P_WTX_BASE_UNIT`: abstract time units per multiplier unit (D5). -/
  wtxBaseUnit : Nat
  /-- `P_WTX_MAX_RETRIES`: the most WTX requests serviced in one exchange (D6). -/
  wtxMaxRetries : Bound
  /-- `P_WTX_MAX_WAIT`: the most cumulative WTX wait in one exchange (D6). -/
  wtxMaxWait : Bound
  /-- `P_RX_CRC_CHECK`: whether inbound frames are CRC-validated (D7). -/
  rxCrcCheck : Bool
  /-- `P_SREQ_PERSIST`: whether the session-request flag survives a sent session request (D8). -/
  sreqPersist : Bool
  /-- `P_DESEL_ACK_LEN`: the bytes read back as the S(DESELECT) acknowledgement (D9). -/
  deselAckLen : Nat
deriving DecidableEq, Repr

/-- The four parameters that R6 takes from the source have the values R6 gives them; R7 puts no constraint on them. -/
def Config.sourceValues (c : Config) : Bool :=
  decide (c.crcPoly = 0x8408#16 ∧ c.crcSeed = 0x6363#16 ∧ c.pcbSDeselect = 0xC2#8 ∧ c.pcbSWtx = 0xF2#8)

/-- Configuration T of spec/95_test_vectors.md section 0: the values R6 fixes and, for the OPEN parameters, the
test values. DESIGN CHOICE (notes/assumptions/2.md): `State.reset` carries it; unsafe for a claim about that one
state, and no statement about every state rests on it. -/
def Config.test : Config where
  crcPoly := 0x8408#16
  crcSeed := 0x6363#16
  pcbSDeselect := 0xC2#8
  pcbSWtx := 0xF2#8
  iPcbBase := 0x02#8
  sreqWord := [0x26#8]
  devAddr := 0x56
  maxFrame := 32
  wtxBaseUnit := 1
  wtxMaxRetries := .fin 3
  wtxMaxWait := .inf
  rxCrcCheck := true
  sreqPersist := false
  deselAckLen := 3

end Sys2Proof
end

