-- ==== Sys2Proof/Machine/Crc.lean ====
section
/-!
DEFINITION. The CRC-16 unit (spec/40_crc.md R100 to R105): the bit-serial algorithm, the byte-at-a-time form, check
bytes in wire order, and the validation of a frame. The polynomial and the seed of a frame are parameters (R6).
-/

namespace Sys2Proof.Machine

/-- One turn of R101's inner loop: the reflected (least significant bit first) shift. -/
def crcBit (poly c : Word16) : Word16 :=
  if c.getLsbD 0 then (c >>> 1) ^^^ poly else c >>> 1

/-- `k` turns of the inner loop. -/
def crcBits (poly : Word16) : Nat → Word16 → Word16
  | 0, c => c
  | k + 1, c => crcBits poly k (crcBit poly c)

/-- One byte of R101: XOR the byte in, then 8 turns. -/
def crcByte (poly c : Word16) (d : Byte) : Word16 :=
  crcBits poly 8 (c ^^^ d.setWidth 16)

/-- The accumulator `crc_acc` after the bytes `s`, in wire order, from `seed` (R101, R32). -/
def crcReg (cfg : Config) (s : Bytes) (seed : Word16) : Word16 :=
  s.foldl (crcByte cfg.crcPoly) seed

/-- `crc16(s, seed)` (R101). -/
def crc16 (cfg : Config) (s : Bytes) (seed : Word16) : Word16 :=
  crcReg cfg s seed ^^^ crcXorOut

/-- The byte-at-a-time step of R102, for the polynomial 0x8408. -/
def crcByteFast (c : Word16) (d : Byte) : Word16 :=
  let e := d ^^^ c.setWidth 8
  let e := e ^^^ (e <<< 4)
  (c >>> 8) ^^^ (e.setWidth 16 <<< 8) ^^^ (e.setWidth 16 <<< 3) ^^^ (e.setWidth 16 >>> 4)

/-- `crc_bytes(c)` (R103, R52): low byte first. -/
def crcBytes (c : Word16) : Bytes :=
  [c.extractLsb' 0 8, c.extractLsb' 8 8]

/-- `append_crc(s)` (R103). -/
def appendCrc (cfg : Config) (s : Bytes) : Bytes :=
  s ++ crcBytes (crc16 cfg s cfg.crcSeed)

/-- The value two received check bytes stand for, in wire order (R52, R83). -/
def checkValue (lo hi : Byte) : Word16 :=
  lo.setWidth 16 ||| (hi.setWidth 16 <<< 8)

/-- The bytes before the two check bytes: `f[0 .. |f|-2)` (R104, R126). -/
def dataPart (f : Bytes) : Bytes :=
  f.take (f.length - 2)

/-- `valid(f)` (R104). A string shorter than 2 bytes is not valid (D41). -/
def valid (cfg : Config) (f : Bytes) : Bool :=
  match f.drop (f.length - 2) with
  | [lo, hi] => crc16 cfg (dataPart f) cfg.crcSeed == checkValue lo hi
  | _ => false

end Sys2Proof.Machine
end

