-- ==== Sys2Proof/Syntax.lean ====
section
/-!
DEFINITION. The sequencer states (spec/10_state.md R22) and the instructions: one constructor for each row of
spec/opcode_table.json. The block fetches no instructions (R21); what it runs is the host's command words (R80, R81)
and the frames that cross the Transport port (R71 to R78), and the table lists both.
-/

namespace Sys2Proof

/-- The Engine's state register `fsm` (R22), 3 bits; all eight codes are used. -/
inductive Fsm where
  | idle
  | sessionRequested
  | sendI
  | awaitingResponse
  | wtxWait
  | wtxAck
  | deselecting
  | deselAck
deriving DecidableEq, Repr

/-- The rows of spec/opcode_table.json. A command's byte-string operand is the content of `DIN` at acceptance (R80)
and is no field of the command word; a frame's check bytes are fixed by the bytes before them (R70). -/
inductive Instr where
  /-- `OPEN`, command word 0x00000001 (R81, R152). -/
  | openSession
  /-- `EXCHANGE`, expected response length `n` in `w[31:16]` (R81, R153). -/
  | exchange (n : Word16)
  /-- `DESELECT`, command word 0x00000003 (R81, R171). -/
  | deselect
  /-- `CRC16`, the seed in `w[31:16]` (R81, R109). -/
  | crc16 (seed : Word16)
  /-- `ENC_I`, the toggle operand in `w[4]` (R81, R122). -/
  | encI (t : Bool)
  /-- `ENC_S DESELECT`, command word 0x00000006 (R81, R125). -/
  | encSDeselect
  /-- `ENC_S WTX`, the multiplier in `w[15:8]` (R81, R125). -/
  | encSWtx (m : Byte)
  /-- `IS_WTX`, the byte tested in `w[15:8]` (R81, R127). -/
  | isWtx (b : Byte)
  /-- `VALIDATE`, command word 0x00000008 (R81, R110). -/
  | validate
  /-- The outbound I-block with toggle 0 and its information field (R72), sent by the step of R158. -/
  | iBlockToggle0 (inf : Bytes)
  /-- The outbound I-block with toggle 1 and its information field (R72), sent by the step of R158. -/
  | iBlockToggle1 (inf : Bytes)
  /-- The outbound S(DESELECT) (R73), sent by the step of R172. -/
  | sDeselect
  /-- The outbound S(WTX) acknowledgement with its multiplier (R74), sent by the step of R167. -/
  | sWtxAck (m : Byte)
  /-- The outbound session-request word (R78), sent by the step of R156. -/
  | sessionRequestWord
  /-- An inbound WTX request (R75): `tail` is every byte the read returned after the marker. -/
  | wtxRequest (tail : Bytes)
  /-- An inbound substantive response (R76): every byte the read returned. -/
  | substantiveResponse (r : Bytes)
  /-- An inbound deselect acknowledgement (R77): every byte the read returned. -/
  | deselectAck (r : Bytes)
deriving DecidableEq, Repr

/-- What the sequencer has before it: a command word on the command port (R80), or the bytes of a frame that crosses
the Transport port while the Engine is in the state `phase` (R79: the kind of a frame comes from the Engine's state,
not from a length byte or a mode bit of the frame). -/
inductive Fetched where
  | command (w : Word32)
  | frame (phase : Fsm) (bytes : Bytes)
deriving DecidableEq, Repr

end Sys2Proof
end

