-- ==== Sys2Proof/Machine/Codec.lean ====
section
/-!
DEFINITION. The Frame Codec's pure functions (spec/41_frame_codec.md R120 to R126): the encoders, the WTX detector,
the classification of inbound frames, and the decoding of a response.
-/

namespace Sys2Proof.Machine

/-- The I-block PCB with the toggle bit applied by OR in bit 0 (R72, R83). -/
def iBlockPcb (cfg : Config) (t : Bool) : Byte :=
  cfg.iPcbBase ||| (BitVec.ofBool t).setWidth 8

/-- The whole I-block frame: PCB, payload, check bytes (R72). -/
def iBlockFrame (cfg : Config) (t : Bool) (p : Bytes) : Bytes :=
  appendCrc cfg (iBlockPcb cfg t :: p)

/-- `encode_i(t, p)` (R120); `none` is `PayloadTooLarge`. -/
def encodeI (cfg : Config) (t : Bool) (p : Bytes) : Option Bytes :=
  if p.length + 3 > cfg.maxFrame then none else some (iBlockFrame cfg t p)

/-- `encode_s(DESELECT)` (R121, R73). -/
def encodeSDeselect (cfg : Config) : Bytes := appendCrc cfg [cfg.pcbSDeselect]

/-- `encode_s(WTX(m))` (R121, R74); the multiplier goes in unmasked. -/
def encodeSWtx (cfg : Config) (m : Byte) : Bytes := appendCrc cfg [cfg.pcbSWtx, m]

/-- `is_wtx(b)` (R123). -/
def isWtxByte (b : Byte) : Bool := b == wtxMarker

/-- The two classes of inbound frames (R124). -/
inductive FrameClass where
  | wtx
  | response
deriving DecidableEq, Repr

/-- `classify(r)` (R124): by the first byte only; an empty read is a response. -/
def classify (r : Bytes) : FrameClass :=
  match r with
  | b :: _ => if isWtxByte b then .wtx else .response
  | [] => .response

/-- `decode(r, n)` (R126) for `|r| = n ≥ 3`: `r[0 .. n-2)`, the response PCB kept. -/
def decodeResponse (r : Bytes) (n : Nat) : Bytes := r.take (n - 2)

end Sys2Proof.Machine
end

