-- ==== Sys2Proof/WellFormed.lean ====
section
/-!
DEFINITION. The static checks on an instruction that its type does not make. Operand widths are in the types; what is
left is the frame ceiling of an I-block (spec/41_frame_codec.md R120) and the classification of an inbound frame
(R76, R124). `EXCHANGE` with an expected length below 3 is a well-formed word that its meaning refuses (R153).
-/

namespace Sys2Proof

/-- The frame fits the ceiling: payload and the 3 bytes of framing overhead (R120). -/
def iBlockFits (cfg : Config) (inf : Bytes) : Bool := decide (inf.length + 3 ≤ cfg.maxFrame)

/-- The first byte is not the WTX marker; an empty read counts as a response (R76, R124). -/
def notWtx (r : Bytes) : Bool := r.head? != some wtxMarker

/-- The instruction is one that the encoding of the block with configuration `cfg` has. -/
def Instr.wellFormed (cfg : Config) (i : Instr) : Bool :=
  match i with
  | .openSession => true
  | .exchange _ => true
  | .deselect => true
  | .crc16 _ => true
  | .encI _ => true
  | .encSDeselect => true
  | .encSWtx _ => true
  | .isWtx _ => true
  | .validate => true
  | .iBlockToggle0 inf => iBlockFits cfg inf
  | .iBlockToggle1 inf => iBlockFits cfg inf
  | .sDeselect => true
  | .sWtxAck _ => true
  | .sessionRequestWord => true
  | .wtxRequest _ => true
  | .substantiveResponse r => notWtx r
  | .deselectAck _ => true

end Sys2Proof
end

