-- ==== Sys2Proof/Decode.lean ====
section
/-!
DEFINITION. Decoding and encoding (spec/30_encoding.md R70 to R83): the command word by the rows of R81, an outbound
frame by the Engine state that sends it and its PCB, an inbound frame by the Engine state that reads it and its first
byte (R79). Decoding is total and rejects by name. After it the encoder, and the decoder of a table word.
-/

namespace Sys2Proof

/-- Why bytes are no instruction. -/
inductive DecodeError where
  /-- A command word that matches no row of R81 (R82). -/
  | reservedEncoding
  /-- A frame in a state that moves no frame (`IDLE`, `WTX_WAIT`; R22). -/
  | noFrameInPhase
  /-- In `SESSION_REQUESTED`: not `P_SREQ_WORD` (R78). -/
  | notSessionWord
  /-- An outbound frame whose length is not its kind's (R72, R73, R74, R79). -/
  | wrongLength
  /-- An outbound frame whose PCB is not its kind's (R71). -/
  | wrongPcb
  /-- An outbound frame whose check bytes are not its CRC (R70). -/
  | wrongCheckBytes
deriving DecidableEq, Repr

/-- One row of R81: `w` selects it when `(w AND mask) = pattern`. -/
structure CommandRow where
  pattern : Word32
  mask : Word32
  build : Word32 → Instr

/-- `h = w[31:16]` (R80). -/
def fieldH (w : Word32) : Word16 := w.extractLsb' 16 16

/-- `b = w[15:8]` (R80). -/
def fieldB (w : Word32) : Byte := w.extractLsb' 8 8

/-- `x = w[4]` (R80). -/
def fieldX (w : Word32) : Bool := w.getLsbD 4

/-- The opcode map of R81, in its order. -/
def commandRows : List CommandRow := [
  ⟨0x00000001#32, 0xFFFFFFFF#32, fun _ => .openSession⟩,
  ⟨0x00000002#32, 0x0000FFFF#32, fun w => .exchange (fieldH w)⟩,
  ⟨0x00000003#32, 0xFFFFFFFF#32, fun _ => .deselect⟩,
  ⟨0x00000004#32, 0x0000FFFF#32, fun w => .crc16 (fieldH w)⟩,
  ⟨0x00000005#32, 0xFFFFFFEF#32, fun w => .encI (fieldX w)⟩,
  ⟨0x00000006#32, 0xFFFFFFFF#32, fun _ => .encSDeselect⟩,
  ⟨0x00000016#32, 0xFFFF00FF#32, fun w => .encSWtx (fieldB w)⟩,
  ⟨0x00000007#32, 0xFFFF00FF#32, fun w => .isWtx (fieldB w)⟩,
  ⟨0x00000008#32, 0xFFFFFFFF#32, fun _ => .validate⟩]

/-- The command word `w` as an instruction (R81, R82). -/
def decodeCommand (w : Word32) : Except DecodeError Instr :=
  match commandRows.find? (fun r => w &&& r.mask == r.pattern) with
  | some r => .ok (r.build w)
  | none => .error .reservedEncoding

/-- The information field of a frame: the bytes between PCB and check bytes (R70). -/
def infField (f : Bytes) : Bytes := (Machine.dataPart f).drop 1

/-- An outbound I-block (R72): the PCB tells the toggle. -/
def decodeIBlock (cfg : Config) (f : Bytes) : Except DecodeError Instr :=
  if f.length < 3 ∨ cfg.maxFrame < f.length then .error .wrongLength
  else if Machine.valid cfg f = false then .error .wrongCheckBytes
  else if f.head? = some (Machine.iBlockPcb cfg false) then .ok (.iBlockToggle0 (infField f))
  else if f.head? = some (Machine.iBlockPcb cfg true) then .ok (.iBlockToggle1 (infField f))
  else .error .wrongPcb

/-- An outbound S(DESELECT) (R73). -/
def decodeSDeselect (cfg : Config) (f : Bytes) : Except DecodeError Instr :=
  match f with
  | [pcb, _, _] =>
    if pcb ≠ cfg.pcbSDeselect then .error .wrongPcb
    else if Machine.valid cfg f then .ok .sDeselect else .error .wrongCheckBytes
  | _ => .error .wrongLength

/-- An outbound S(WTX) acknowledgement (R74). -/
def decodeSWtxAck (cfg : Config) (f : Bytes) : Except DecodeError Instr :=
  match f with
  | [pcb, m, _, _] =>
    if pcb ≠ cfg.pcbSWtx then .error .wrongPcb
    else if Machine.valid cfg f then .ok (.sWtxAck m) else .error .wrongCheckBytes
  | _ => .error .wrongLength

/-- An inbound frame read in `AWAITING_RESPONSE`: by its first byte only (R75, R76, R79, R124). Its length and its check
bytes are no part of decoding: the step that read it checks them and reports them (R161, R164, R165). -/
def decodeInbound (r : Bytes) : Instr :=
  match Machine.classify r with
  | .wtx => .wtxRequest r.tail
  | .response => .substantiveResponse r

/-- The decoder, total on any command word and on any bytes in any Engine state. -/
def decode (cfg : Config) (x : Fetched) : Except DecodeError Instr :=
  match x with
  | .command w => decodeCommand w
  | .frame phase f =>
    match phase with
    | .idle => .error .noFrameInPhase
    | .sessionRequested => if f = cfg.sreqWord then .ok .sessionRequestWord else .error .notSessionWord
    | .sendI => decodeIBlock cfg f
    | .awaitingResponse => .ok (decodeInbound f)
    | .wtxWait => .error .noFrameInPhase
    | .wtxAck => decodeSWtxAck cfg f
    | .deselecting => decodeSDeselect cfg f
    | .deselAck => .ok (.deselectAck f)

/-- The words of an instruction (R70 to R78, R80, R81). -/
def encode (cfg : Config) (i : Instr) : Fetched :=
  match i with
  | .openSession => .command 0x00000001#32
  | .exchange n => .command (n ++ 0x0002#16)
  | .deselect => .command 0x00000003#32
  | .crc16 seed => .command (seed ++ 0x0004#16)
  | .encI t => .command (0#27 ++ BitVec.ofBool t ++ 0x5#4)
  | .encSDeselect => .command 0x00000006#32
  | .encSWtx m => .command (0#16 ++ m ++ 0x16#8)
  | .isWtx b => .command (0#16 ++ b ++ 0x07#8)
  | .validate => .command 0x00000008#32
  | .iBlockToggle0 inf => .frame .sendI (Machine.iBlockFrame cfg false inf)
  | .iBlockToggle1 inf => .frame .sendI (Machine.iBlockFrame cfg true inf)
  | .sDeselect => .frame .deselecting (Machine.encodeSDeselect cfg)
  | .sWtxAck m => .frame .wtxAck (Machine.encodeSWtx cfg m)
  | .sessionRequestWord => .frame .sessionRequested cfg.sreqWord
  | .wtxRequest tail => .frame .awaitingResponse (wtxMarker :: tail)
  | .substantiveResponse r => .frame .awaitingResponse r
  | .deselectAck r => .frame .deselAck r

/-- The frame that a wire-frame row's one table byte `b` stands for: the PCB, operand bytes 0, and the check bytes
that R70 fixes from them (the table gives the check bytes no bits, and zeros in their place would be no frame of the
row). DESIGN CHOICE (notes/assumptions/9.md): the byte 0xF2 stands in two rows, the outbound acknowledgement and the
inbound request, and is read as the acknowledgement; a byte of no outbound row is read as an inbound response. -/
def tableFrame (cfg : Config) (b : Byte) : Fetched :=
  if b = Machine.iBlockPcb cfg false ∨ b = Machine.iBlockPcb cfg true then .frame .sendI (Machine.appendCrc cfg [b])
  else if b = cfg.pcbSDeselect then .frame .deselecting (Machine.appendCrc cfg [b])
  else if b = cfg.pcbSWtx then .frame .wtxAck (Machine.appendCrc cfg [b, 0#8])
  else if [b] = cfg.sreqWord then .frame .sessionRequested [b]
  else .frame .awaitingResponse (Machine.appendCrc cfg [b])

/-- The instruction read from a table word: 32 bits are a command word, 8 bits the first byte of a frame of the block
in configuration T. -/
def decodeTableWord (nbits w : Nat) : Option Instr :=
  if nbits = 32 then (decode Config.test (.command (BitVec.ofNat 32 w))).toOption
  else if nbits = 8 then (decode Config.test (tableFrame Config.test (BitVec.ofNat 8 w))).toOption
  else none

end Sys2Proof
end

