-- ==== Sys2Proof/Machine/State.lean ====
section
/-!
DEFINITION. The state of the block (spec/10_state.md R20 to R42), the events and requests of the Transport and Timer
ports (spec/20_memory.md R55 to R58), what the agents outside the block do (spec/00_scope.md R5), the reasons a step
stops, and the state after reset.
-/

namespace Sys2Proof.Machine

/-- The outstanding request to the Transport or the Timer (R41, R55, R56, R215). -/
inductive Request where
  /-- `TxWrite(addr, s)`. -/
  | write (addr : Nat) (s : Bytes)
  /-- `RxRead(addr, n)`. -/
  | read (addr : Nat) (n : Nat)
  /-- `Wait(d)`. -/
  | wait (d : Nat)
deriving DecidableEq, Repr

/-- An answer of the Transport (R55, R56) or of the Timer (R215). -/
inductive Answer where
  /-- A write answered `OK`. -/
  | writeOk
  /-- A read answered `OK(r)`. -/
  | readOk (r : Bytes)
  /-- A write or a read answered `ERR`. -/
  | error
  /-- The Timer completes a wait. -/
  | timer
deriving DecidableEq, Repr

/-- One event of `hist` (R58): a request with its answer; an abandoned request (R230) has none. -/
structure Event where
  request : Request
  answer : Option Answer
deriving DecidableEq, Repr

/-- A whole value on the host port (R53): the 32-bit `CMD`, a 16-bit register, or a byte string. -/
inductive PortValue where
  | word32 (w : Word32)
  | word16 (w : Word16)
  | bytes (s : Bytes)
deriving DecidableEq, Repr

/-- One act of an agent outside the block, or a turn left to the Engine (R5). -/
inductive Input where
  /-- The reset input is asserted (R230). -/
  | reset
  /-- The Host writes the value to the numbered register (R38). -/
  | hostWrite (reg : Nat) (v : PortValue)
  /-- The Host reads the numbered register (R38). -/
  | hostRead (reg : Nat)
  /-- The Transport or the Timer answers the request that stands, or will stand, at place `k` of `hist`. -/
  | answer (k : Nat) (a : Answer)
  /-- No agent outside acts: the Engine has the turn to issue its request before the answer comes. -/
  | turn
deriving DecidableEq, Repr

/-- The refusal reasons: those of R208, and one for what R11 refuses besides. -/
inductive RefusalReason where
  /-- A `CMD` write while `fsm ≠ IDLE` (R150). -/
  | busyCommand
  /-- A command word of no row (R82). -/
  | reservedEncoding
  /-- `EXCHANGE` with `n < 3` (R153). -/
  | shortExpectedLength
  /-- A read answer longer than requested (R56). -/
  | transportOverlong
  /-- An answer outside the contract of the ports but for its length (R11, R55, R56, R215); R208 gives it no name, so
  the name is the model's (notes/assumptions/22.md). -/
  | transportContract
  /-- A Host access outside the register map or of the wrong kind (R40, R53). -/
  | badRegisterAccess
  /-- A configuration outside R7. -/
  | badConfiguration
  /-- A buffer access outside the buffer's capacity (R51); no reachable state meets one. -/
  | bufferBounds
deriving DecidableEq, Repr

/-- Why a step stops: R11's third outcome, stuck (no step is enabled). Each is safe: a claim that the machine goes on
becomes unprovable, and no claim about the block becomes provable (notes/assumptions/11.md). -/
inductive Fault where
  /-- The Engine is in `IDLE` and no Host act is left in `inbox` (raised by `step`; safe). -/
  | awaitingHost
  /-- A Transport request is outstanding and no answer is left in `inbox` (R155; raised by `step`, and by the meaning
  of an outbound frame run again without its answer; safe). -/
  | awaitingTransport
  /-- A wait is outstanding and no Timer completion is left in `inbox` (R155, R215; raised by `step`; safe). -/
  | awaitingTimer
  /-- A frame's meaning is asked for in a state in which the Engine does not send or read that frame (R22); `step`
  asks for none such, and no rule gives it an effect (raised by the frames' meanings; safe). -/
  | frameNotDue
deriving DecidableEq, Repr

/-- The outcome `refused` of the host's interface. The refusals of the spec (R11, R208) are no such outcome: each is a
next state that carries the sticky mark `refused` and the reason in `refusals` (notes/assumptions/4.md). -/
inductive Refusal where
  /-- An instruction without a meaning in this model (raised by `exec`'s arms; safe). None is left. -/
  | notModelled (mnemonic : String)
deriving DecidableEq, Repr

/-- The state of the block: the registers of spec/10_state.md, its model-only state (R41), and last the model's own
fields. -/
structure State where
  /-- `fsm` (R22), 3 bits. -/
  fsm : Fsm
  /-- `tog` (R23), 1 bit. -/
  tog : Bool
  /-- `sreq` (R24), 1 bit. -/
  sreq : Bool
  /-- `dev_addr` (R25); its width is the Transport's address type's, which the source does not give
  (notes/assumptions/19.md). -/
  devAddr : Nat
  /-- `wtx_cnt` (R26), an unsigned counter. -/
  wtxCnt : Nat
  /-- `wtx_total` (R27), an unsigned natural. -/
  wtxTotal : Nat
  /-- `wtx_m` (R28), 8 bits. -/
  wtxM : Byte
  /-- `cmd_op` (R29), 4 bits. -/
  cmdOp : BitVec 4
  /-- `cmd_n` (R29), 16 bits. -/
  cmdN : Word16
  /-- `pl` (R29), the latched payload, at most 65535 bytes (R51). -/
  pl : Bytes
  /-- `rxcap` (R30), 16 bits, held as the natural number it stands for (notes/assumptions/6.md). -/
  rxcap : Nat
  /-- `rxbuf` (R30), at most `rxcap` bytes. -/
  rxbuf : Bytes
  /-- `txbuf` (R31), at most `P_MAX_FRAME` bytes. -/
  txbuf : Bytes
  /-- `crc_acc` (R32), 16 bits. -/
  crcAcc : Word16
  /-- `done` (R33), 1 bit. -/
  done : Bool
  /-- `status` (R34), 3 bits. -/
  status : BitVec 3
  /-- `err_phase` (R35), 3 bits. -/
  errPhase : BitVec 3
  /-- `dout` (R36), host register 4. -/
  dout : Bytes
  /-- `vout` (R37), 16 bits, host register 2. -/
  vout : Word16
  /-- `DIN` (R38, R40), host register 3, 0 to 65535 bytes. -/
  din : Bytes
  /-- `refused` (R41, R11): the sticky refusal mark. -/
  refused : Bool
  /-- `hist` (R41, R58): the events in issue order. -/
  hist : List Event
  /-- `pending` (R41): the outstanding request. -/
  pending : Option Request
  /-- The MODEL's own: the configuration of R6, which no step writes (R42; notes/assumptions/3.md). -/
  cfg : Config
  /-- The MODEL's own: what the agents outside do, in order; each step takes the first (R42; notes/assumptions/10.md). -/
  inbox : List Input
  /-- The MODEL's own: the answer supplied on the port in this step; none between steps. -/
  answer : Option Answer
  /-- The MODEL's own: the value the last Host read was given (R38; notes/assumptions/14.md). -/
  readout : Option PortValue
  /-- The MODEL's own: the reasons of the refusals so far, oldest first (R208; notes/assumptions/14.md). -/
  refusals : List RefusalReason
deriving DecidableEq, Repr

/-- Every register at the reset value spec/10_state.md section 8 gives it, in a block with configuration `cfg`. -/
def State.resetWith (cfg : Config) : State where
  fsm := .idle
  tog := false
  sreq := true
  devAddr := cfg.devAddr
  wtxCnt := 0
  wtxTotal := 0
  wtxM := 0#8
  cmdOp := 0#4
  cmdN := 0#16
  pl := []
  rxcap := 0
  rxbuf := []
  txbuf := []
  crcAcc := 0x6363#16
  done := false
  status := 0#3
  errPhase := 0#3
  dout := []
  vout := 0#16
  din := []
  refused := false
  hist := []
  pending := none
  cfg := cfg
  inbox := []
  answer := none
  readout := none
  refusals := []

/-- The machine right after reset (R230, R232), with nothing placed by any agent. DESIGN CHOICE
(notes/assumptions/2.md): its configuration is T of spec/95_test_vectors.md section 0. -/
def State.reset : State := State.resetWith Config.test

end Sys2Proof.Machine
end

