-- ==== Sys2Proof/Machine/Flags.lean ====
section
/-!
DEFINITION. The coded fields the Host sees: the code of each `fsm` state (spec/10_state.md R22), the result codes
(spec/60_exceptions.md R201) and the assembly of `STATUS` (R39). The block has no arithmetic flags.
-/

namespace Sys2Proof.Machine

/-- The 3-bit code of an Engine state (R22). -/
def fsmCode (p : Fsm) : BitVec 3 :=
  match p with
  | .idle => 0#3
  | .sessionRequested => 1#3
  | .sendI => 2#3
  | .awaitingResponse => 3#3
  | .wtxWait => 4#3
  | .wtxAck => 5#3
  | .deselecting => 6#3
  | .deselAck => 7#3

/-- The error kinds of R200. -/
inductive ErrorKind where
  | transportError
  | checksumMismatch
  | responseTooShort
  | payloadTooLarge
  | timeout
deriving DecidableEq, Repr

/-- The result code of an error kind (R201); 0 is `OK`, and 6 and 7 are never written. -/
def errorCode (k : ErrorKind) : BitVec 3 :=
  match k with
  | .transportError => 1#3
  | .checksumMismatch => 2#3
  | .responseTooShort => 3#3
  | .payloadTooLarge => 4#3
  | .timeout => 5#3

/-- `STATUS.busy`: 1 when `fsm ≠ IDLE` (R39). -/
def State.busy (s : State) : Bool := s.fsm != .idle

/-- `STATUS` (R39), from bit 15 down: 3 zeros, `fsm`, `sreq`, `tog`, `err_phase`, `status`, `done`, `busy`. -/
def State.statusWord (s : State) : Word16 :=
  0#3 ++ fsmCode s.fsm ++ BitVec.ofBool s.sreq ++ BitVec.ofBool s.tog ++ s.errPhase ++ s.status ++
    BitVec.ofBool s.done ++ BitVec.ofBool s.busy

end Sys2Proof.Machine
end

