-- ==== Sys2Proof/Machine/Params.lean ====
section
/-!
DEFINITION. The parameter constraints of spec/00_scope.md R7, which the model checks before it runs, and the comparison
with a ceiling (R6, R162).
-/

namespace Sys2Proof.Machine

/-- R7. `P_WTX_BASE_UNIT ≥ 0` and the two WTX ceilings being natural or `INF` are in the types. -/
def configValid (c : Config) : Bool :=
  decide
    (c.iPcbBase.getLsbD 0 = false ∧ c.iPcbBase ≠ wtxMarker ∧
      4 ≤ c.maxFrame ∧ c.maxFrame ≤ 65535 ∧
      1 ≤ c.sreqWord.length ∧ c.sreqWord.length ≤ c.maxFrame ∧
      3 ≤ c.deselAckLen)

/-- `v` does not exceed the ceiling; a comparison `v > INF` is always false (R162). -/
def boundAdmits (b : Bound) (v : Nat) : Bool :=
  match b with
  | .fin n => decide (v ≤ n)
  | .inf => true

end Sys2Proof.Machine
end

