-- ==== Sys2Proof/Machine/Ops.lean ====
section
/-!
DEFINITION. The named operations every meaning is written with: the buffer primitives (spec/20_memory.md R51),
refusal (spec/00_scope.md R11), completion (spec/60_exceptions.md R205, the block's trap entry), the session reset
(spec/42_session_fsm.md R174), the reset input (spec/70_reset_and_hazards.md R230), the issuing and recording of a
request (R55, R58, R155), and the one write transfer and the one read transfer that all frames go through.
-/

namespace Sys2Proof.Machine

/-! ### Buffers (R51) -/

/-- `MemRead(buf, i, n)` on a buffer of capacity `cap`; `none` where the access passes the capacity. DESIGN CHOICE
(notes/assumptions/21.md): of a read within the capacity but past the present content, the bytes that are there. -/
def memRead (cap : Nat) (buf : Bytes) (i n : Nat) : Option Bytes :=
  if i + n ≤ cap then some ((buf.drop i).take n) else none

/-- `MemWrite(buf, i, |s|, s)` on a buffer of capacity `cap`: bytes `i .. i+|s|` become `s`, the buffer extended
(with zero bytes below `i`, a gap no rule of the spec leaves: notes/assumptions/18.md) if shorter; `none` where the access passes the
capacity. -/
def memWrite (cap : Nat) (buf : Bytes) (i : Nat) (s : Bytes) : Option Bytes :=
  if i + s.length ≤ cap then
    some (buf.take i ++ List.replicate (i - buf.length) 0#8 ++ s ++ buf.drop (i + s.length))
  else none

/-- `buf <- s`: the whole content of a buffer replaced. -/
def loadBuffer (cap : Nat) (s : Bytes) : Option Bytes := memWrite cap [] 0 s

/-! ### Refusal (R11, R208) -/

/-- `refuse <reason>`: the sticky mark is set, the reason noted, and no register changes (R82). -/
def State.refuse (s : State) (why : RefusalReason) : State :=
  { s with refused := true, refusals := s.refusals ++ [why] }

/-! ### Completion (R205) -/

/-- `complete OK with dout <- x, vout <- v`. -/
def State.completeOk (s : State) (x : Bytes) (v : Word16) : State :=
  { s with status := 0#3, errPhase := 0#3, dout := x, vout := v, done := true, fsm := .idle }

/-- `complete K` for an error kind: `err_phase` is the `fsm` code of the step that fails. -/
def State.completeErr (s : State) (k : ErrorKind) : State :=
  { s with status := errorCode k, errPhase := fsmCode s.fsm, dout := [], vout := 0#16, done := true, fsm := .idle }

/-! ### Session reset, and the reset input -/

/-- `session_reset` (R174). -/
def State.sessionReset (s : State) : State := { s with tog := false, sreq := true }

/-- The reset input (R230): every register at its reset value; an outstanding request is abandoned, which leaves it
in `hist` without an answer; `refused` and `hist` are not cleared. -/
def State.resetInput (s : State) : State :=
  { State.resetWith s.cfg with
    refused := s.refused
    refusals := s.refusals
    hist := s.hist ++ (s.pending.map fun q => (⟨q, none⟩ : Event)).toList
    inbox := s.inbox }

/-! ### Requests (R55, R56, R58, R155) -/

/-- The request is issued and stands until its answer comes. -/
def State.issue (s : State) (q : Request) : State := { s with pending := some q, answer := none }

/-- The request is answered: `hist` has it with its answer, and nothing is outstanding. -/
def State.record (s : State) (q : Request) (a : Answer) : State :=
  { s with hist := s.hist ++ [⟨q, some a⟩], pending := none, answer := none }

/-- A CRC over `b` from `seed` leaves its last value in the accumulator (R32, R101). -/
def State.withCrc (s : State) (b : Bytes) (seed : Word16) : State := { s with crcAcc := crcReg s.cfg b seed }

/-- The validation of an inbound frame, where the configuration asks for it (R106). -/
def State.frameAccepted (s : State) (f : Bytes) : Bool := !s.cfg.rxCrcCheck || valid s.cfg f

/-- Computing `valid(f)` runs the CRC over all but the last two bytes; a string without check bytes runs none
(R104; what stands in it between computations is notes/assumptions/13.md). -/
def State.crcOfCheck (s : State) (f : Bytes) : State :=
  if 2 ≤ f.length then s.withCrc (dataPart f) s.cfg.crcSeed else s

/-- What the check of R106 leaves in the accumulator. -/
def State.crcOfAccept (s : State) (f : Bytes) : State :=
  if s.cfg.rxCrcCheck then s.crcOfCheck f else s

/-- One whole write step (R155): `txbuf <- f`, then `TxWrite(dev_addr, f)`. `before` is what the step's rule writes
before the answer, `onError` and `onOk` what it does with `ERR` and `OK`. With no answer supplied the request is
issued and stands, and a step that finds it standing is stuck. -/
def sendFrame (f : Bytes) (before onError onOk : State → State) (s : State) : Host.Outcome State Fault Refusal :=
  match loadBuffer s.cfg.maxFrame f with
  | none => .next ({ s with answer := none }.refuse .bufferBounds)
  | some buf =>
    match s.answer with
    | some .error => .next (onError (({ before s with txbuf := buf }).record (.write s.devAddr f) .error))
    | some .writeOk => .next (onOk (({ before s with txbuf := buf }).record (.write s.devAddr f) .writeOk))
    | some (.readOk _) => .fault .frameNotDue
    | some .timer => .fault .frameNotDue
    | none => if s.pending = none then .next (s.issue (.write s.devAddr f)) else .fault .awaitingTransport

/-- One whole read step answered `OK(r)` (R155, R56): `RxRead(dev_addr, n)`, then `rxbuf <- r`, then what the step's
rule does with `r`. An answer longer than `n` is refused: the read stands as if it had not been answered. -/
def receiveFrame (n : Nat) (r : Bytes) (handle : State → State) (s : State) : Host.Outcome State Fault Refusal :=
  if n < r.length then .next ((s.issue (.read s.devAddr n)).refuse .transportOverlong)
  else
    match loadBuffer s.rxcap r with
    | none => .next ((s.issue (.read s.devAddr n)).refuse .bufferBounds)
    | some buf => .next (handle (({ s with rxbuf := buf }).record (.read s.devAddr n) (.readOk r)))

/-- The step of a frame runs only in the Engine state whose step it is (R22; notes/assumptions/12.md). -/
def whenDue (due : Prop) [Decidable due] (body : Host.Outcome State Fault Refusal) : Host.Outcome State Fault Refusal :=
  if due then body else .fault .frameNotDue

/-! ### Command acceptance (R150) -/

/-- The opening of every accepted command: `done <- 0 ; cmd_op <- w[3:0]`, then the row's own rule. A command written
while the Engine is not in `IDLE` is refused. -/
def acceptCommand (op : BitVec 4) (rule : State → State) (s : State) : Host.Outcome State Fault Refusal :=
  if s.fsm ≠ .idle then .next (s.refuse .busyCommand)
  else .next (rule { s with done := false, cmdOp := op })

end Sys2Proof.Machine
end

