-- ==== Sys2Proof/Machine/Operands.lean ====
section
/-!
DEFINITION. The operands of each state's step, computed from the state alone: the frame the Engine sends
(spec/42_session_fsm.md R156, R158, R167, R172), the length it reads (R160, R173), the wait it starts (R166), and the
request that these make (R55, R56, R215).
-/

namespace Sys2Proof.Machine

/-- The duration of the wait of `WTX_WAIT` (R166). -/
def State.waitTime (s : State) : Nat := s.cfg.wtxBaseUnit * s.wtxM.toNat

/-- The bytes the Engine sends in its present state; `none` where it sends none, and in `SEND_I` for a payload that
no frame holds (R153 lets none in). -/
def State.outgoing (s : State) : Option Bytes :=
  match s.fsm with
  | .idle => none
  | .sessionRequested => some s.cfg.sreqWord
  | .sendI => encodeI s.cfg s.tog s.pl
  | .awaitingResponse => none
  | .wtxWait => none
  | .wtxAck => some (encodeSWtx s.cfg s.wtxM)
  | .deselecting => some (encodeSDeselect s.cfg)
  | .deselAck => none

/-- The `max_len` of the read the Engine makes in its present state (R160, R173, R79). -/
def State.readLength (s : State) : Option Nat :=
  match s.fsm with
  | .idle => none
  | .sessionRequested => none
  | .sendI => none
  | .awaitingResponse => some s.cmdN.toNat
  | .wtxWait => none
  | .wtxAck => none
  | .deselecting => none
  | .deselAck => some s.cfg.deselAckLen

/-- The one request of the step in the present state (R155). -/
def State.dueRequest (s : State) : Option Request :=
  match s.fsm with
  | .idle => none
  | .sessionRequested => some (.write s.devAddr s.cfg.sreqWord)
  | .sendI => (encodeI s.cfg s.tog s.pl).map (.write s.devAddr)
  | .awaitingResponse => some (.read s.devAddr s.cmdN.toNat)
  | .wtxWait => some (.wait s.waitTime)
  | .wtxAck => some (.write s.devAddr (encodeSWtx s.cfg s.wtxM))
  | .deselecting => some (.write s.devAddr (encodeSDeselect s.cfg))
  | .deselAck => some (.read s.devAddr s.cfg.deselAckLen)

end Sys2Proof.Machine
end

