-- ==== Sys2Proof/Machine/CodecCommands.lean ====
section
/-!
DEFINITION. The codec commands, which complete in their acceptance step (spec/40_crc.md R109, R110;
spec/41_frame_codec.md R122, R125, R127).
-/

namespace Sys2Proof.Machine

/-- A truth value in `vout` (R37). -/
def flagWord (b : Bool) : Word16 := if b then 1#16 else 0#16

/-- `CRC16` (R109). -/
def execCrc16 (seed : Word16) (s : State) : Host.Outcome State Fault Refusal :=
  acceptCommand 0x4#4 (fun s => (s.withCrc s.din seed).completeOk [] (crc16 s.cfg s.din seed)) s

/-- `VALIDATE` (R110): `P_RX_CRC_CHECK` does not affect it. -/
def execValidate (s : State) : Host.Outcome State Fault Refusal :=
  acceptCommand 0x8#4 (fun s => (s.crcOfCheck s.din).completeOk [] (flagWord (valid s.cfg s.din))) s

/-- `ENC_I` (R122): the toggle is the operand; `tog` is neither read nor flipped. -/
def execEncI (t : Bool) (s : State) : Host.Outcome State Fault Refusal :=
  acceptCommand 0x5#4 (fun s =>
    match encodeI s.cfg t s.din with
    | some f => (s.withCrc (iBlockPcb s.cfg t :: s.din) s.cfg.crcSeed).completeOk f 0#16
    | none => s.completeErr .payloadTooLarge) s

/-- `ENC_S DESELECT` (R125). -/
def execEncSDeselect (s : State) : Host.Outcome State Fault Refusal :=
  acceptCommand 0x6#4 (fun s => (s.withCrc [s.cfg.pcbSDeselect] s.cfg.crcSeed).completeOk (encodeSDeselect s.cfg) 0#16) s

/-- `ENC_S WTX` (R125). -/
def execEncSWtx (m : Byte) (s : State) : Host.Outcome State Fault Refusal :=
  acceptCommand 0x6#4 (fun s => (s.withCrc [s.cfg.pcbSWtx, m] s.cfg.crcSeed).completeOk (encodeSWtx s.cfg m) 0#16) s

/-- `IS_WTX` (R127). -/
def execIsWtx (b : Byte) (s : State) : Host.Outcome State Fault Refusal :=
  acceptCommand 0x7#4 (fun s => s.completeOk [] (flagWord (isWtxByte b))) s

end Sys2Proof.Machine
end

