-- ==== Sys2Proof/Machine/FramesIn.lean ====
section
/-!
DEFINITION. The inbound frames: each is the whole step whose read returns it (spec/42_session_fsm.md R155, R160 to
R165, R173); and the steps of those states whose answer is no frame: a failed read (R160, R173) and the wait of
`WTX_WAIT` (R166).
-/

namespace Sys2Proof.Machine

/-- The retry bound (R162): servicing one more request of duration `d` stays within both ceilings. -/
def withinWtxBound (s : State) (d : Nat) : Bool :=
  boundAdmits s.cfg.wtxMaxRetries (s.wtxCnt + 1) && boundAdmits s.cfg.wtxMaxWait (s.wtxTotal + d)

/-- R162 and R163 for a WTX request that passed the checks of R161. -/
def serveWtx (m : Byte) (s : State) : State :=
  let d := s.cfg.wtxBaseUnit * m.toNat
  if withinWtxBound s d then
    { s with wtxM := m, wtxCnt := s.wtxCnt + 1, wtxTotal := s.wtxTotal + d, fsm := .wtxWait }
  else s.completeErr .timeout

/-- R161, then R162 and R163: length, check bytes of the first four bytes, bound, in that order (R209). -/
def handleWtx (r : Bytes) (s : State) : State :=
  match r with
  | b0 :: m :: b2 :: b3 :: _ =>
    if s.frameAccepted [b0, m, b2, b3] then serveWtx m (s.crcOfAccept [b0, m, b2, b3])
    else (s.crcOfAccept [b0, m, b2, b3]).completeErr .checksumMismatch
  | _ => s.completeErr .responseTooShort

/-- R164, then R165. -/
def handleResponse (r : Bytes) (s : State) : State :=
  if r.length < s.cmdN.toNat then s.completeErr .responseTooShort
  else if s.frameAccepted r then (s.crcOfAccept r).completeOk (decodeResponse r s.cmdN.toNat) 0#16
  else (s.crcOfAccept r).completeErr .checksumMismatch

/-- R173 after the read: the first byte is not checked, and a WTX request is not serviced; the session is reset on
every completion (R174). -/
def handleDeselAck (r : Bytes) (s : State) : State :=
  if r.length < s.cfg.deselAckLen then s.sessionReset.completeErr .responseTooShort
  else if s.frameAccepted r then (s.crcOfAccept r).sessionReset.completeOk [] 0#16
  else (s.crcOfAccept r).sessionReset.completeErr .checksumMismatch

/-- An inbound WTX request (R75, R160 to R163). -/
def execWtxRequest (tail : Bytes) (s : State) : Host.Outcome State Fault Refusal :=
  whenDue (s.fsm = .awaitingResponse)
    (receiveFrame s.cmdN.toNat (wtxMarker :: tail) (handleWtx (wtxMarker :: tail)) s)

/-- An inbound substantive response (R76, R160, R164, R165). -/
def execSubstantiveResponse (r : Bytes) (s : State) : Host.Outcome State Fault Refusal :=
  whenDue (s.fsm = .awaitingResponse) (receiveFrame s.cmdN.toNat r (handleResponse r) s)

/-- An inbound deselect acknowledgement (R77, R173). -/
def execDeselectAck (r : Bytes) (s : State) : Host.Outcome State Fault Refusal :=
  whenDue (s.fsm = .deselAck) (receiveFrame s.cfg.deselAckLen r (handleDeselAck r) s)

/-- A read of `n` bytes answered `ERR` (R160, R173, R202): not retried; in `DESEL_ACK` the session is reset (R174). -/
def readFailed (n : Nat) (s : State) : State :=
  let t := s.record (.read s.devAddr n) .error
  if s.fsm = .deselAck then t.sessionReset.completeErr .transportError else t.completeErr .transportError

/-- The step of `WTX_WAIT` with the Timer's completion (R166, R215); the wait cannot fail, and its length is only
recorded (notes/assumptions/16.md). -/
def waitDone (s : State) : State :=
  { s.record (.wait s.waitTime) .timer with fsm := .wtxAck }

end Sys2Proof.Machine
end

