-- ==== Sys2Proof/Machine/FramesOut.lean ====
section
/-!
DEFINITION. The outbound frames: each is the whole step that sends it (spec/42_session_fsm.md R155, R156, R158, R167,
R172). A frame is due only where the Engine's state makes it the one frame the step sends.
-/

namespace Sys2Proof.Machine

/-- The session-request word (R156). A failed write leaves the flag set (D17). -/
def execSessionRequestWord (s : State) : Host.Outcome State Fault Refusal :=
  whenDue (s.fsm = .sessionRequested)
    (sendFrame s.cfg.sreqWord id
      (fun s => s.completeErr .transportError)
      (fun s => { s with sreq := s.sreq && s.cfg.sreqPersist, fsm := .sendI }) s)

/-- The step of `SEND_I` (R158) with toggle bit `t` and payload `p`: the toggle flips before the write is answered
and stays flipped if it fails (D16). -/
def sendIBlock (t : Bool) (p : Bytes) (s : State) : Host.Outcome State Fault Refusal :=
  whenDue (s.fsm = .sendI ∧ s.tog = t ∧ s.pl = p)
    (sendFrame (iBlockFrame s.cfg t p)
      (fun s => { s.withCrc (iBlockPcb s.cfg t :: p) s.cfg.crcSeed with tog := !s.tog })
      (fun s => s.completeErr .transportError)
      (fun s => { s with fsm := .awaitingResponse }) s)

/-- The I-block with toggle 0 (R72, R158). -/
def execIBlockToggle0 (inf : Bytes) (s : State) : Host.Outcome State Fault Refusal := sendIBlock false inf s

/-- The I-block with toggle 1 (R72, R158). -/
def execIBlockToggle1 (inf : Bytes) (s : State) : Host.Outcome State Fault Refusal := sendIBlock true inf s

/-- The S(WTX) acknowledgement (R74, R167); the next step reads again. -/
def execSWtxAck (m : Byte) (s : State) : Host.Outcome State Fault Refusal :=
  whenDue (s.fsm = .wtxAck ∧ s.wtxM = m)
    (sendFrame (encodeSWtx s.cfg m)
      (fun s => s.withCrc [s.cfg.pcbSWtx, m] s.cfg.crcSeed)
      (fun s => s.completeErr .transportError)
      (fun s => { s with fsm := .awaitingResponse }) s)

/-- S(DESELECT) (R73, R172): the session is reset on a failed write too (R174). -/
def execSDeselect (s : State) : Host.Outcome State Fault Refusal :=
  whenDue (s.fsm = .deselecting)
    (sendFrame (encodeSDeselect s.cfg)
      (fun s => s.withCrc [s.cfg.pcbSDeselect] s.cfg.crcSeed)
      (fun s => s.sessionReset.completeErr .transportError)
      (fun s => { s with fsm := .deselAck }) s)

end Sys2Proof.Machine
end

