-- ==== Sys2Proof/Machine/Session.lean ====
section
/-!
DEFINITION. The Transport Session's commands at acceptance (spec/42_session_fsm.md R150 to R153, R171): OPEN,
EXCHANGE, DESELECT.
-/

namespace Sys2Proof.Machine

/-- `OPEN` (R152). -/
def execOpenSession (s : State) : Host.Outcome State Fault Refusal :=
  acceptCommand 0x1#4 (fun s =>
    { s with
      tog := false, sreq := true
      wtxCnt := 0, wtxTotal := 0, wtxM := 0#8
      rxcap := 0, rxbuf := [], txbuf := [], pl := [], cmdN := 0#16 }.completeOk [] 0#16) s

/-- The acceptance rule of `EXCHANGE` for `n ≥ 3` (R153). -/
def acceptExchange (n : Word16) (s : State) : State :=
  if s.din.length + 3 > s.cfg.maxFrame then s.completeErr .payloadTooLarge
  else
    { s with
      pl := s.din, cmdN := n
      rxcap := max s.rxcap n.toNat
      wtxCnt := 0, wtxTotal := 0
      fsm := if s.sreq then .sessionRequested else .sendI }

/-- `EXCHANGE` (R153). The busy check of R150 comes first, then the expected length (R209): a command with `n < 3` is
refused, so it is not accepted and writes no register (notes/assumptions/5.md). -/
def execExchange (n : Word16) (s : State) : Host.Outcome State Fault Refusal :=
  if s.fsm = .idle ∧ n.toNat < 3 then .next (s.refuse .shortExpectedLength)
  else acceptCommand 0x2#4 (acceptExchange n) s

/-- `DESELECT` (R171): no session request is sent first, whatever `sreq` is. -/
def execDeselect (s : State) : Host.Outcome State Fault Refusal :=
  acceptCommand 0x3#4 (fun s => { s with rxcap := max s.rxcap s.cfg.deselAckLen, fsm := .deselecting }) s

end Sys2Proof.Machine
end

