-- ==== Sys2Proof/Machine/Dispatch.lean ====
section
/-!
DEFINITION. The meaning of every instruction: one direct call each.
-/

namespace Sys2Proof.Machine

def exec (i : Instr) (s : State) : Host.Outcome State Fault Refusal :=
  match i with
  | .openSession => Sys2Proof.Machine.execOpenSession s
  | .exchange n => Sys2Proof.Machine.execExchange n s
  | .deselect => Sys2Proof.Machine.execDeselect s
  | .crc16 seed => Sys2Proof.Machine.execCrc16 seed s
  | .encI t => Sys2Proof.Machine.execEncI t s
  | .encSDeselect => Sys2Proof.Machine.execEncSDeselect s
  | .encSWtx m => Sys2Proof.Machine.execEncSWtx m s
  | .isWtx b => Sys2Proof.Machine.execIsWtx b s
  | .validate => Sys2Proof.Machine.execValidate s
  | .iBlockToggle0 inf => Sys2Proof.Machine.execIBlockToggle0 inf s
  | .iBlockToggle1 inf => Sys2Proof.Machine.execIBlockToggle1 inf s
  | .sDeselect => Sys2Proof.Machine.execSDeselect s
  | .sWtxAck m => Sys2Proof.Machine.execSWtxAck m s
  | .sessionRequestWord => Sys2Proof.Machine.execSessionRequestWord s
  | .wtxRequest tail => Sys2Proof.Machine.execWtxRequest tail s
  | .substantiveResponse r => Sys2Proof.Machine.execSubstantiveResponse r s
  | .deselectAck r => Sys2Proof.Machine.execDeselectAck r s

end Sys2Proof.Machine
end

