-- ==== Sys2Proof/Machine/HostPort.lean ====
section
/-!
DEFINITION. The host register map (spec/10_state.md R38 to R40, R53): five numbered registers, each written or read
as a whole value. A write of `CMD` issues a command and is handled by the sequencer (Machine/Sequencer.lean).
-/

namespace Sys2Proof.Machine

/-- The register numbers of R38. -/
def regCmd : Nat := 0
def regStatus : Nat := 1
def regVout : Nat := 2
def regDin : Nat := 3
def regDout : Nat := 4

/-- A Host write that issues no command: `DIN` takes its whole new content, busy or not (R40, R63); every other
access is refused. DESIGN CHOICE (notes/assumptions/8.md): a value that is not of the register's width (R38, R53) is
refused as a bad access too. -/
def hostWriteData (reg : Nat) (v : PortValue) (s : State) : State :=
  match v with
  | .bytes b => if reg = regDin ∧ b.length ≤ 65535 then { s with din := b } else s.refuse .badRegisterAccess
  | .word32 _ => s.refuse .badRegisterAccess
  | .word16 _ => s.refuse .badRegisterAccess

/-- The value a Host read of the register is given (R38, R39); `none` for a register that is write only or absent. -/
def hostReadValue (reg : Nat) (s : State) : Option PortValue :=
  if reg = regStatus then some (.word16 s.statusWord)
  else if reg = regVout then some (.word16 s.vout)
  else if reg = regDout then some (.bytes s.dout)
  else none

/-- A Host read (R38, R40): the value goes to the Host and no register changes. -/
def hostReadRegister (reg : Nat) (s : State) : State :=
  match hostReadValue reg s with
  | some v => { s with readout := some v }
  | none => s.refuse .badRegisterAccess

end Sys2Proof.Machine
end

