-- ==== Sys2Proof/Machine/Sequencer.lean ====
section
/-!
DEFINITION. Sequencing (spec/10_state.md R21, spec/42_session_fsm.md R150, R155, spec/60_exceptions.md R210): which
command word or frame the next step runs, the steps that run neither, and a state placed before a given instruction.

The agents of R5 act through `inbox`, one act a step, first to last. An answer names its request by the place the
request has in `hist` (R58), so that the late answer of an abandoned request is told from the answer of the request
now outstanding (R230). When `inbox` is empty, or leaves the turn to the Engine, the Engine issues its request; an
answer that comes with the request not yet issued is one atomic step with it (R155). DESIGN CHOICE
(notes/assumptions/10.md).
-/

namespace Sys2Proof.Machine

/-- The answer `a` for the request at place `k` of `hist` answers the request of the present state: it names the
place the request takes, and a write is answered as a write, a read as a read, a wait by the Timer (R55, R56, R215).
-/
def answerFits (s : State) (k : Nat) (a : Answer) : Bool :=
  k == s.hist.length &&
    match s.dueRequest with
    | none => false
    | some (.write _ _) => match a with | .writeOk => true | .readOk _ => false | .error => true | .timer => false
    | some (.read _ _) => match a with | .writeOk => false | .readOk _ => true | .error => true | .timer => false
    | some (.wait _) => match a with | .writeOk => false | .readOk _ => false | .error => false | .timer => true

/-- The frame the Engine sends in its present state. -/
def fetchSend (s : State) : Option Fetched := s.outgoing.map (.frame s.fsm)

/-- The command word or frame that the next step runs, if it runs one. -/
def fetch (s : State) : Option Fetched :=
  match s.inbox with
  | [] => if s.pending = none then fetchSend s else none
  | .turn :: _ => if s.pending = none then fetchSend s else none
  | .reset :: _ => none
  | .hostRead _ :: _ => none
  | .hostWrite reg v :: _ =>
    match v with
    | .word32 w => if reg = regCmd then some (.command w) else none
    | .word16 _ => none
    | .bytes _ => none
  | .answer k a :: _ =>
    if answerFits s k a then
      match a with
      | .readOk r => some (.frame s.fsm r)
      | .writeOk => fetchSend s
      | .error => fetchSend s
      | .timer => none
    else none

/-- The first act of `inbox` is taken; an answer stands on the port for this step. -/
def serve (s : State) : State :=
  { s with
    inbox := s.inbox.tail
    answer :=
      match s.inbox with
      | .answer _ a :: _ => some a
      | _ => none }

/-- An act that has no effect is taken. -/
def passTurn (s : State) : State := { s with inbox := s.inbox.tail }

/-- Place `k` of `hist` is of a request that a reset abandoned: it stands there unanswered (R230). -/
def abandonedAt (s : State) (k : Nat) : Bool :=
  match s.hist[k]? with
  | some e => e.answer.isNone
  | none => false

/-- The Transport gives the answer `a` to its own request `q`, be it of the wrong kind; such a request was issued. -/
def transportAnswers (q : Request) (a : Answer) : Bool :=
  match q with
  | .write _ _ => a != .timer
  | .read _ _ => a != .timer
  | .wait _ => false

/-- An answer that does not fit: the late answer of an abandoned request is discarded (R230); any other is outside the
contract of the ports, and refused (R11). What stands after the refusal is notes/assumptions/22.md. -/
def unfitAnswer (k : Nat) (a : Answer) (s : State) : State :=
  if abandonedAt s k then s
  else
    match s.dueRequest with
    | some q =>
      if k = s.hist.length ∧ transportAnswers q a = true then (s.issue q).refuse .transportContract
      else s.refuse .transportContract
    | none => s.refuse .transportContract

/-- What decodes to no instruction: a command word written while busy or of no row (R150, R82). A frame of the
Engine's own always decodes; bytes that did not would fit no frame of the configuration (R51). -/
def notDecoded (x : Fetched) (s : State) : State :=
  match x with
  | .command _ => if s.fsm ≠ .idle then s.refuse .busyCommand else s.refuse .reservedEncoding
  | .frame _ _ => s.refuse .bufferBounds

/-- Where the Engine stands when no agent acts any more (R11; notes/assumptions/11.md). -/
def stuckFault (s : State) : Fault :=
  match s.fsm with
  | .idle => .awaitingHost
  | .wtxWait => .awaitingTimer
  | .sessionRequested => .awaitingTransport
  | .sendI => .awaitingTransport
  | .awaitingResponse => .awaitingTransport
  | .wtxAck => .awaitingTransport
  | .deselecting => .awaitingTransport
  | .deselAck => .awaitingTransport

/-- The Engine's turn where it sends no frame: it issues its read or its wait, if it has one and it is not yet
outstanding. In `SEND_I` with a payload that no frame holds, which no run reaches, the buffer access is refused
(R51). -/
def engineTurn (s : State) : Option State :=
  if s.pending = none then
    match s.dueRequest with
    | some q => some (s.issue q)
    | none => if s.fsm = .idle then none else some (s.refuse .bufferBounds)
  else none

/-- A fitting answer that carries no frame: a read answered `ERR` (R160, R173), or the Timer's completion (R166). -/
def answeredWithoutFrame (s : State) : State :=
  match s.readLength with
  | some n => readFailed n s
  | none => waitDone s

/-- A step that runs neither a command word nor a frame. -/
def withoutInstruction (s : State) : Host.Outcome State Fault Refusal :=
  match s.inbox with
  | [] =>
    match engineTurn s with
    | some t => .next t
    | none => .fault (stuckFault s)
  | .turn :: _ =>
    match engineTurn (passTurn s) with
    | some t => .next t
    | none => .next (passTurn s)
  | .reset :: _ => .next (passTurn s).resetInput
  | .hostRead reg :: _ => .next (hostReadRegister reg (passTurn s))
  | .hostWrite reg v :: _ => .next (hostWriteData reg v (passTurn s))
  | .answer k a :: _ =>
    if answerFits s k a then .next (answeredWithoutFrame (serve s))
    else .next (unfitAnswer k a (passTurn s))

/-- One step (R11): a configuration outside R7 is refused before anything runs (notes/assumptions/17.md); otherwise the next command word or
frame is decoded and run, or the step is one of those that run neither. -/
def runStep (s : State) : Host.Outcome State Fault Refusal :=
  if configValid s.cfg then
    match fetch s with
    | some x =>
      match decode s.cfg x with
      | .ok i => exec i (serve s)
      | .error _ => .next (notDecoded x (serve s))
    | none => withoutInstruction s
  else .next (s.refuse .badConfiguration)

/-- The act `a` comes before all others. -/
def State.prepend (s : State) (a : Input) : State := { s with inbox := a :: s.inbox }

/-- The state in which the next step sends or reads the frame of `i`: the Engine in that frame's state with the
operands the frame is made of, no request outstanding, and the Transport's answer (`OK`) first in `inbox`. For a
command the state is unchanged (notes/assumptions/1.md). -/
def placeFrame (i : Instr) (s : State) : State :=
  let t : State := { s with pending := none, answer := none }
  let ok : Input := .answer s.hist.length .writeOk
  let got (r : Bytes) : Input := .answer s.hist.length (.readOk r)
  match i with
  | .openSession => s
  | .exchange _ => s
  | .deselect => s
  | .crc16 _ => s
  | .encI _ => s
  | .encSDeselect => s
  | .encSWtx _ => s
  | .isWtx _ => s
  | .validate => s
  | .iBlockToggle0 inf => { t with fsm := .sendI, tog := false, pl := inf }.prepend ok
  | .iBlockToggle1 inf => { t with fsm := .sendI, tog := true, pl := inf }.prepend ok
  | .sDeselect => { t with fsm := .deselecting }.prepend ok
  | .sWtxAck m => { t with fsm := .wtxAck, wtxM := m }.prepend ok
  | .sessionRequestWord => { t with fsm := .sessionRequested }.prepend ok
  | .wtxRequest tail =>
    { t with
      fsm := .awaitingResponse, cmdN := BitVec.ofNat 16 (tail.length + 1)
      rxcap := max s.rxcap (tail.length + 1) }.prepend (got (wtxMarker :: tail))
  | .substantiveResponse r =>
    { t with
      fsm := .awaitingResponse, cmdN := BitVec.ofNat 16 r.length
      rxcap := max s.rxcap r.length }.prepend (got r)
  | .deselectAck r => { t with fsm := .deselAck, rxcap := max s.rxcap s.cfg.deselAckLen }.prepend (got r)

/-- A table word placed before the next step: a command word as the Host's write of `CMD`, a frame's first byte as the
frame that `decodeTableWord` reads from it. -/
def placeTableWord (s : State) (nbits w : Nat) : State :=
  if nbits = 32 then s.prepend (.hostWrite regCmd (.word32 (BitVec.ofNat 32 w)))
  else
    match decodeTableWord nbits w with
    | some i => placeFrame i s
    | none => s

end Sys2Proof.Machine
end

