-- ==== Sys2Proof/Machine/Step.lean ====
section
/-!
DEFINITION. One step of the machine, and a state with a given instruction placed where the next step takes it.
-/

namespace Sys2Proof.Machine

/-- One step (spec/00_scope.md R11; `runStep` in Machine/Sequencer.lean). -/
def step (s : State) : Host.Outcome State Fault Refusal := runStep s

/-- `s` with the instruction of the table word `w` before the next step (`placeTableWord`). -/
def State.withFetchWord (s : State) (nbits w : Nat) : State := placeTableWord s nbits w

end Sys2Proof.Machine
end

