-- ==== Sys2Proof/Machine/Asm.lean ====
section
/-!
DEFINITION. The textual syntax of commands (spec/30_encoding.md R84), its pseudo-instructions (R85), and what a line
assembles to: one write of `DIN` where the command takes a byte string, then one write of `CMD`. Text is a list of
characters. Letters are as R84 writes them; hex digits may be of either case; spaces separate and are otherwise free
(notes/assumptions/15.md).
-/

namespace Sys2Proof.Machine

/-- A command line of R84. -/
inductive AsmLine where
  | openSession
  | exchange (p : Bytes) (n : Word16)
  | deselect
  | crc16 (s : Bytes) (seed : Word16)
  | encI (t : Bool) (p : Bytes)
  | encSDeselect
  | encSWtx (m : Byte)
  | isWtx (b : Byte)
  | validate (f : Bytes)
deriving DecidableEq, Repr

/-- The command the line stands for. -/
def asmInstr (l : AsmLine) : Instr :=
  match l with
  | .openSession => .openSession
  | .exchange _ n => .exchange n
  | .deselect => .deselect
  | .crc16 _ seed => .crc16 seed
  | .encI t _ => .encI t
  | .encSDeselect => .encSDeselect
  | .encSWtx m => .encSWtx m
  | .isWtx b => .isWtx b
  | .validate _ => .validate

/-- The byte string of the line, where its command takes one. -/
def asmData (l : AsmLine) : Option Bytes :=
  match l with
  | .openSession => none
  | .exchange p _ => some p
  | .deselect => none
  | .crc16 s _ => some s
  | .encI _ p => some p
  | .encSDeselect => none
  | .encSWtx _ => none
  | .isWtx _ => none
  | .validate f => some f

/-- The Host's writes a line assembles to (R84). -/
def assemble (cfg : Config) (l : AsmLine) : List Input :=
  let data := (asmData l).map fun b => Input.hostWrite regDin (.bytes b)
  let word :=
    match encode cfg (asmInstr l) with
    | .command w => some (Input.hostWrite regCmd (.word32 w))
    | .frame _ _ => none
  data.toList ++ word.toList

/-- The tokens of a line. -/
inductive AsmToken where
  | word (cs : List Char)
  | comma
  | lbracket
  | rbracket
deriving DecidableEq, Repr

/-- The word gathered so far, its last character first. -/
def flushWord (acc : List Char) : List AsmToken :=
  match acc with
  | [] => []
  | _ :: _ => [.word acc.reverse]

/-- The tokens of a text, `acc` the word gathered before it. -/
def lexLine : List Char → List Char → List AsmToken
  | [], acc => flushWord acc
  | c :: cs, acc =>
    if c = ' ' then flushWord acc ++ lexLine cs []
    else if c = ',' then flushWord acc ++ .comma :: lexLine cs []
    else if c = '[' then flushWord acc ++ .lbracket :: lexLine cs []
    else if c = ']' then flushWord acc ++ .rbracket :: lexLine cs []
    else lexLine cs (c :: acc)

/-- The value of a digit in base 16. -/
def digitValue (c : Char) : Option Nat :=
  let n := c.toNat
  if 48 ≤ n ∧ n ≤ 57 then some (n - 48)
  else if 65 ≤ n ∧ n ≤ 70 then some (n - 55)
  else if 97 ≤ n ∧ n ≤ 102 then some (n - 87)
  else none

/-- The digits of a number in the base, most significant first, after the value `v`. -/
def digitsValue (base : Nat) : List Char → Nat → Option Nat
  | [], v => some v
  | c :: cs, v =>
    match digitValue c with
    | some d => if d < base then digitsValue base cs (base * v + d) else none
    | none => none

/-- A number: decimal, or hex after `0x` (R84), below `limit`. -/
def numberValue (limit : Nat) (cs : List Char) : Option Nat :=
  let v :=
    match cs with
    | [] => none
    | '0' :: 'x' :: [] => none
    | '0' :: 'x' :: ds => digitsValue 16 ds 0
    | ds => digitsValue 10 ds 0
  match v with
  | some n => if n < limit then some n else none
  | none => none

/-- One hex byte of a byte string: two digits. -/
def hexByteValue (cs : List Char) : Option Byte :=
  match cs with
  | [_, _] => (digitsValue 16 cs 0).map (BitVec.ofNat 8)
  | _ => none

/-- The hex bytes up to the closing bracket, and what stands after it. -/
def bracketBytes : List AsmToken → Option (Bytes × List AsmToken)
  | .rbracket :: rest => some ([], rest)
  | .word cs :: rest =>
    match hexByteValue cs, bracketBytes rest with
    | some b, some (bs, after) => some (b :: bs, after)
    | _, _ => none
  | _ => none

/-- The line `mnemonic operands` (R84, R85). -/
def parseOperands (mnemonic : List Char) (ops : List AsmToken) : Option AsmLine :=
  if mnemonic = ['O', 'P', 'E', 'N'] then
    if ops = [] then some .openSession else none
  else if mnemonic = ['D', 'E', 'S', 'E', 'L', 'E', 'C', 'T'] then
    if ops = [] then some .deselect else none
  else if mnemonic = ['E', 'X', 'C', 'H', 'A', 'N', 'G', 'E'] then
    match ops with
    | .lbracket :: rest =>
      match bracketBytes rest with
      | some (p, [.comma, .word n]) => (numberValue 65536 n).map fun v => .exchange p (BitVec.ofNat 16 v)
      | _ => none
    | _ => none
  else if mnemonic = ['C', 'R', 'C', '1', '6'] then
    match ops with
    | .lbracket :: rest =>
      match bracketBytes rest with
      | some (s, []) => some (.crc16 s 0x6363#16)
      | some (s, [.comma, .word n]) => (numberValue 65536 n).map fun v => .crc16 s (BitVec.ofNat 16 v)
      | _ => none
    | _ => none
  else if mnemonic = ['E', 'N', 'C', '_', 'I'] then
    match ops with
    | .word t :: .comma :: .lbracket :: rest =>
      match numberValue 2 t, bracketBytes rest with
      | some v, some (p, []) => some (.encI (v = 1) p)
      | _, _ => none
    | _ => none
  else if mnemonic = ['E', 'N', 'C', '_', 'S'] then
    match ops with
    | [.word f] => if f = ['D', 'E', 'S', 'E', 'L', 'E', 'C', 'T'] then some .encSDeselect else none
    | [.word f, .comma, .word m] =>
      if f = ['W', 'T', 'X'] then (numberValue 256 m).map fun v => .encSWtx (BitVec.ofNat 8 v) else none
    | _ => none
  else if mnemonic = ['E', 'N', 'C', '_', 'S', '_', 'D', 'E', 'S'] then
    if ops = [] then some .encSDeselect else none
  else if mnemonic = ['E', 'N', 'C', '_', 'S', '_', 'W', 'T', 'X'] then
    match ops with
    | [.word m] => (numberValue 256 m).map fun v => .encSWtx (BitVec.ofNat 8 v)
    | _ => none
  else if mnemonic = ['I', 'S', '_', 'W', 'T', 'X'] then
    match ops with
    | [.word b] => (numberValue 256 b).map fun v => .isWtx (BitVec.ofNat 8 v)
    | _ => none
  else if mnemonic = ['V', 'A', 'L', 'I', 'D', 'A', 'T', 'E'] then
    match ops with
    | .lbracket :: rest =>
      match bracketBytes rest with
      | some (f, []) => some (.validate f)
      | _ => none
    | _ => none
  else none

/-- The line of a text; `none` for a text of no form of R84 and R85. -/
def parseLine (text : List Char) : Option AsmLine :=
  match lexLine text [] with
  | .word m :: ops => parseOperands m ops
  | _ => none

end Sys2Proof.Machine
end

