-- ==== Sys2Proof/Safety.lean ====
section
/-!
DEFINITION. What claims about runs are stated in: the invariant of every state a run reaches, the end of a run
(spec/70_reset_and_hazards.md R241), runs against a Transport and a Timer that answer every request, and the scripts
and event lists of a successful EXCHANGE and DESELECT (spec/42_session_fsm.md R168, R173, R175).
-/

namespace Sys2Proof.Safety

open Sys2Proof.Machine

/-! ### The invariant -/

/-- No buffer holds more than its capacity (R30, R31, R38, R51), and `rxcap` is a 16-bit value unless
`P_DESEL_ACK_LEN` itself is not (R30, R171). -/
abbrev BuffersFit (s : State) : Prop :=
  s.txbuf.length ≤ s.cfg.maxFrame ∧ s.rxbuf.length ≤ s.rxcap ∧ s.rxcap ≤ max 65535 s.cfg.deselAckLen ∧
  s.pl.length ≤ 65535 ∧ s.din.length ≤ 65535

/-- The serviced WTX requests are within both ceilings (R26, R27, R162). -/
abbrev WtxWithinBounds (s : State) : Prop :=
  boundAdmits s.cfg.wtxMaxRetries s.wtxCnt = true ∧ boundAdmits s.cfg.wtxMaxWait s.wtxTotal = true

/-- The rows of R201: a result code with an `err_phase` it is reported with. -/
def resultRows : List (BitVec 3 × BitVec 3) := [
  (0#3, 0#3),
  (1#3, 1#3), (1#3, 2#3), (1#3, 3#3), (1#3, 5#3), (1#3, 6#3), (1#3, 7#3),
  (2#3, 3#3), (2#3, 7#3),
  (3#3, 3#3), (3#3, 7#3),
  (4#3, 0#3),
  (5#3, 3#3)]

/-- `status` and `err_phase` are a row of R201. -/
abbrev ResultLegal (s : State) : Prop := (s.status, s.errPhase) ∈ resultRows

/-- The Engine is servicing an EXCHANGE (R22). -/
def inExchange (p : Fsm) : Bool :=
  match p with
  | .idle => false
  | .sessionRequested => true
  | .sendI => true
  | .awaitingResponse => true
  | .wtxWait => true
  | .wtxAck => true
  | .deselecting => false
  | .deselAck => false

/-- The Engine is servicing a DESELECT (R22). -/
def inDeselect (p : Fsm) : Bool := p == .deselecting || p == .deselAck

/-- The latch fits the command being serviced (R29, R33, R150, R153, R171). -/
abbrev LatchFits (s : State) : Prop :=
  (s.fsm ≠ .idle → s.done = false) ∧
  (inExchange s.fsm = true →
    s.cmdOp = 0x2#4 ∧ 3 ≤ s.cmdN.toNat ∧ s.cmdN.toNat ≤ s.rxcap ∧ s.pl.length + 3 ≤ s.cfg.maxFrame) ∧
  (inDeselect s.fsm = true → s.cmdOp = 0x3#4 ∧ s.cfg.deselAckLen ≤ s.rxcap) ∧
  (s.fsm = .sessionRequested → s.sreq = true) ∧
  (s.fsm = .wtxWait ∨ s.fsm = .wtxAck → 1 ≤ s.wtxCnt)

/-- At most one request is outstanding, and it is the one of the present state (R41, R59). -/
abbrev RequestFits (s : State) : Prop :=
  s.answer = none ∧ (s.pending = none ∨ s.pending = s.dueRequest) ∧ (s.fsm = .idle → s.pending = none)

/-- What holds of every state that a run from reset reaches, in a configuration that R7 allows. -/
structure MachineInv (s : State) : Prop where
  /-- The configuration is one R7 allows. -/
  config : configValid s.cfg = true
  /-- `dev_addr` is the constant of the configuration (R25). -/
  address : s.devAddr = s.cfg.devAddr
  buffers : BuffersFit s
  ceilings : WtxWithinBounds s
  result : ResultLegal s
  latch : LatchFits s
  request : RequestFits s
  /-- The mark is set exactly when a refusal has happened (R11). -/
  mark : s.refused = true ↔ s.refusals ≠ []

/-- A Host write of `CMD`, which issues a command (R80). -/
def isCommandWrite (i : Input) : Bool :=
  match i with
  | .reset => false
  | .hostWrite reg _ => reg == regCmd
  | .hostRead _ => false
  | .answer _ _ => false
  | .turn => false

/-- The end of a run (R241): the last command of the Host's list has completed, so no write of `CMD` is left. -/
abbrev Ended (s : State) : Prop :=
  s.fsm = .idle ∧ s.done = true ∧ s.pending = none ∧ s.refused = false ∧ s.inbox.any isCommandWrite = false

/-! ### Names for statements -/

/-- The outbound I-block with toggle `t` (R72). -/
def iBlockInstr (t : Bool) (inf : Bytes) : Instr := if t then .iBlockToggle1 inf else .iBlockToggle0 inf

/-- The nine commands of R81, as against the frames. -/
def isCommand (i : Instr) : Bool :=
  match encode Config.test i with
  | .command _ => true
  | .frame _ _ => false

/-! ### Runs -/

/-- `k` steps, stopping at the first fault or refusal (as `Host.Core.run` of `Sys2Proof.core`). -/
def runFor : Nat → State → Host.Outcome State Fault Refusal
  | 0, s => .next s
  | k + 1, s =>
    match step s with
    | .next t => runFor k t
    | .fault f => .fault f
    | .refused r => .refused r

/-! ### Runs whose requests are all answered -/

/-- The Transport or the Timer answers the request of the present state. -/
def supply (s : State) (a : Answer) : State := s.prepend (.answer s.hist.length a)

/-- The answer is within the contract of the ports: it fits the request, and a read returns no more than asked
(R55, R56, R215). -/
def legalAnswer (s : State) (a : Answer) : Bool :=
  answerFits s s.hist.length a &&
    match a with
    | .readOk r =>
      match s.readLength with
      | some n => decide (r.length ≤ n)
      | none => false
    | .writeOk => true
    | .error => true
    | .timer => true

/-- At most `k` steps, each answered as `env` says, until the Engine is in `IDLE`. -/
def answeredRun (env : State → Answer) : Nat → State → Host.Outcome State Fault Refusal
  | 0, s => .next s
  | k + 1, s =>
    if s.fsm = .idle then .next s
    else
      match step (supply s (env s)) with
      | .next t => answeredRun env k t
      | .fault f => .fault f
      | .refused r => .refused r

/-! ### A successful EXCHANGE and a successful DESELECT (R168, R173) -/

/-- One EXCHANGE that succeeds: its payload, the multipliers of the WTX requests that come before the response, and
the response. -/
structure Exchange where
  payload : Bytes
  multipliers : List Byte
  response : Bytes
deriving DecidableEq, Repr

/-- The wait of one serviced request (R162). -/
def waitOf (cfg : Config) (m : Byte) : Nat := cfg.wtxBaseUnit * m.toNat

/-- What a successful EXCHANGE asks of its data: the payload fits a frame, the response is a valid substantive
response of the requested length, a read is long enough for the WTX requests, and both ceilings admit them. -/
def exchangeSucceeds (cfg : Config) (x : Exchange) : Bool :=
  decide (x.payload.length + 3 ≤ cfg.maxFrame) &&
  decide (3 ≤ x.response.length) && decide (x.response.length < 65536) &&
  notWtx x.response && (!cfg.rxCrcCheck || valid cfg x.response) &&
  (x.multipliers.isEmpty || decide (4 ≤ x.response.length)) &&
  boundAdmits cfg.wtxMaxRetries x.multipliers.length &&
  boundAdmits cfg.wtxMaxWait (x.multipliers.map (waitOf cfg)).sum

/-- The device's WTX request with multiplier `m` (R75). -/
def wtxRequestFrame (cfg : Config) (m : Byte) : Bytes := appendCrc cfg [wtxMarker, m]

/-- The answers of one serviced WTX request, its events from place `h` on. -/
def wtxAnswers (cfg : Config) (h : Nat) (m : Byte) : List Input :=
  [.answer h (.readOk (wtxRequestFrame cfg m)), .answer (h + 1) .timer, .answer (h + 2) .writeOk]

/-- The answers from the first read of an EXCHANGE to its response. -/
def readAnswers (cfg : Config) (h : Nat) : List Byte → Bytes → List Input
  | [], r => [.answer h (.readOk r)]
  | m :: ms, r => wtxAnswers cfg h m ++ readAnswers cfg (h + 3) ms r

/-- The answers of a whole EXCHANGE, from place `h` of `hist` on; `sreq` is the flag at acceptance. -/
def exchangeAnswers (cfg : Config) (sreq : Bool) (h : Nat) (x : Exchange) : List Input :=
  (if sreq then [.answer h .writeOk] else []) ++
    .answer (h + sreq.toNat) .writeOk :: readAnswers cfg (h + sreq.toNat + 1) x.multipliers x.response

/-- What the agents outside do in a successful EXCHANGE: the Host writes `DIN` and `CMD`, the Transport and the Timer
answer. -/
def exchangeScript (cfg : Config) (sreq : Bool) (h : Nat) (x : Exchange) : List Input :=
  .hostWrite regDin (.bytes x.payload) ::
  .hostWrite regCmd (.word32 (BitVec.ofNat 16 x.response.length ++ 0x0002#16)) ::
  exchangeAnswers cfg sreq h x

/-- The events of one serviced WTX request: read, wait, acknowledgement with the multiplier received (R168). -/
def wtxEvents (cfg : Config) (n : Nat) (m : Byte) : List Event :=
  [⟨.read cfg.devAddr n, some (.readOk (wtxRequestFrame cfg m))⟩,
   ⟨.wait (waitOf cfg m), some .timer⟩,
   ⟨.write cfg.devAddr (encodeSWtx cfg m), some .writeOk⟩]

/-- The events of a successful EXCHANGE (R168 (4)): the session-request word if `sreq` was 1 at acceptance, the
I-block with toggle `tog`, the WTX cycles, the read of the response. -/
def exchangeEvents (cfg : Config) (sreq tog : Bool) (x : Exchange) : List Event :=
  (if sreq then [⟨.write cfg.devAddr cfg.sreqWord, some .writeOk⟩] else []) ++
  ⟨.write cfg.devAddr (iBlockFrame cfg tog x.payload), some .writeOk⟩ ::
  x.multipliers.flatMap (wtxEvents cfg x.response.length) ++
  [⟨.read cfg.devAddr x.response.length, some (.readOk x.response)⟩]

/-- The flag after an EXCHANGE that found it at `sreq` (R156). -/
def sreqAfter (cfg : Config) (sreq : Bool) : Bool := sreq && cfg.sreqPersist

/-- The script of successive successful EXCHANGEs of one session. -/
def sessionScript (cfg : Config) (sreq : Bool) (h : Nat) : List Exchange → List Input
  | [] => []
  | x :: xs =>
    exchangeScript cfg sreq h x ++
      sessionScript cfg (sreqAfter cfg sreq) (h + (exchangeEvents cfg sreq false x).length) xs

/-- The events of successive successful EXCHANGEs: the toggle alternates from `tog` (R168 (1)). -/
def sessionEvents (cfg : Config) (sreq tog : Bool) : List Exchange → List Event
  | [] => []
  | x :: xs => exchangeEvents cfg sreq tog x ++ sessionEvents cfg (sreqAfter cfg sreq) (!tog) xs

/-- The toggle after that many I-blocks (R168 (1)). -/
def toggleAfter (tog : Bool) : Nat → Bool
  | 0 => tog
  | k + 1 => toggleAfter (!tog) k

/-- What the agents outside do in a successful DESELECT whose acknowledgement is `ack`. -/
def deselectScript (h : Nat) (ack : Bytes) : List Input :=
  [.hostWrite regCmd (.word32 0x00000003#32), .answer h .writeOk, .answer (h + 1) (.readOk ack)]

/-- The events of a successful DESELECT (R172, R173). -/
def deselectEvents (cfg : Config) (ack : Bytes) : List Event :=
  [⟨.write cfg.devAddr (encodeSDeselect cfg), some .writeOk⟩, ⟨.read cfg.devAddr cfg.deselAckLen, some (.readOk ack)⟩]

end Sys2Proof.Safety
end

