-- ==== Sys2Proof/Certificates/Slice0/Obligations.lean ====
section
/-!
DEFINITION. The statements for the provers. Each docstring names the rules of spec/ its statement rests on; where a
clause is the model's own choice it names the entry of notes/assumptions/ that says so.
-/

open Sys2Proof Sys2Proof.Machine Sys2Proof.Safety

/-! ### The CRC unit and validation -/

/-- R102: the byte-at-a-time form gives the value of the bit-serial loop of R101, for a byte and for a string, with the
polynomial of R100. -/
def Obligations.BytewiseCrcEqualsBitSerial : Prop :=
  (∀ (c : Word16) (d : Byte), crcByteFast c d = crcByte 0x8408#16 c d) ∧
  ∀ (cfg : Config) (s : Bytes) (seed : Word16), cfg.crcPoly = 0x8408#16 →
    s.foldl crcByteFast seed ^^^ crcXorOut = crc16 cfg s seed

/-- R105: data followed by its own check bytes has residue 0, and a string of at least 2 bytes is valid exactly when
its residue is 0; for the polynomial of R100 and any seed, 0x6363 among them. -/
def Obligations.CrcResidueDecidesValidity : Prop :=
  ∀ cfg : Config, cfg.crcPoly = 0x8408#16 →
    (∀ b : Bytes, crc16 cfg (b ++ crcBytes (crc16 cfg b cfg.crcSeed)) cfg.crcSeed = 0#16) ∧
    ∀ f : Bytes, 2 ≤ f.length → (valid cfg f = true ↔ crc16 cfg f cfg.crcSeed = 0#16)

/-- R70, R103, R104: every frame the Frame Codec builds is valid, has its bytes first and its check bytes after them,
low byte first. -/
def Obligations.BuiltFramesAreValid : Prop :=
  (∀ (cfg : Config) (b : Bytes), valid cfg (appendCrc cfg b) = true ∧ dataPart (appendCrc cfg b) = b ∧
    (appendCrc cfg b).length = b.length + 2) ∧
  ∀ c : Word16, ∃ lo hi : Byte, crcBytes c = [lo, hi] ∧ checkValue lo hi = c ∧ lo.toNat = c.toNat % 256 ∧
    hi.toNat = c.toNat / 256

/-- Worked values of spec/95_test_vectors.md (V-CRC-1, V-CRC-11, V-CRC-15, V-CRC-20; V-VAL-3, V-VAL-6). -/
def Obligations.CrcWorkedValues : Prop :=
  crc16 Config.test [0x31#8, 0x32#8, 0x33#8, 0x34#8, 0x35#8, 0x36#8, 0x37#8, 0x38#8, 0x39#8] 0x6363#16 = 0xBF05#16 ∧
  appendCrc Config.test [0xC2#8] = [0xC2#8, 0xE0#8, 0xB4#8] ∧
  appendCrc Config.test [0xF2#8, 0x02#8] = [0xF2#8, 0x02#8, 0x0A#8, 0x72#8] ∧
  appendCrc Config.test [0x02#8, 0x90#8, 0x00#8] = [0x02#8, 0x90#8, 0x00#8, 0xF1#8, 0x09#8] ∧
  valid Config.test [0x02#8, 0x90#8, 0x00#8, 0x09#8, 0xF1#8] = false ∧ valid Config.test [0x63#8] = false

/-! ### Encoding -/

/-- R81: no word selects two rows of the opcode map. -/
def Obligations.CommandRowsAreDisjoint : Prop :=
  commandRows.Pairwise fun a b => ∀ w : Word32, ¬ (w &&& a.mask = a.pattern ∧ w &&& b.mask = b.pattern)

/-- R82: a word with a reserved opcode (0, 9 to 15), or with a bit of `w[7:5]` set, is no instruction. -/
def Obligations.ReservedWordsAreRejected : Prop :=
  ∀ w : Word32, w.toNat % 16 = 0 ∨ 9 ≤ w.toNat % 16 ∨ w.toNat / 32 % 8 ≠ 0 →
    decodeCommand w = .error .reservedEncoding

/-- R70 to R83: decoding the encoding of any well-formed instruction gives it back, in every configuration R7
allows. -/
def Obligations.DecodeOfEncode : Prop :=
  ∀ (cfg : Config) (i : Instr), configValid cfg = true → i.wellFormed cfg = true → decode cfg (encode cfg i) = .ok i

/-- R70 to R83: what decodes to an instruction is that instruction's one encoding, and the instruction is
well-formed. -/
def Obligations.EncodeOfDecode : Prop :=
  ∀ (cfg : Config) (x : Fetched) (i : Instr), configValid cfg = true → decode cfg x = .ok i →
    encode cfg i = x ∧ i.wellFormed cfg = true

/-- R86 and the wire formats of spec/95_test_vectors.md S1 to S3: written words decode to what they stand for. -/
def Obligations.WrittenWordsDecode : Prop :=
  decodeCommand 0x00050002#32 = .ok (.exchange 5#16) ∧
  decodeCommand 0x63630004#32 = .ok (.crc16 0x6363#16) ∧
  decodeCommand 0x00000015#32 = .ok (.encI true) ∧
  decodeCommand 0x00000216#32 = .ok (.encSWtx 2#8) ∧
  decodeCommand 0x0000F207#32 = .ok (.isWtx 0xF2#8) ∧
  decode Config.test (.frame .sendI [0x03#8, 0x90#8, 0x00#8, 0x2D#8, 0x53#8]) =
    .ok (.iBlockToggle1 [0x90#8, 0x00#8]) ∧
  decode Config.test (.frame .awaitingResponse [0xF2#8, 0x02#8, 0x0A#8, 0x72#8]) =
    .ok (.wtxRequest [0x02#8, 0x0A#8, 0x72#8])

/-! ### The commands at acceptance -/

/-- R150: a command written while the Engine is not in `IDLE` is refused: only the mark changes
(notes/assumptions/4.md). -/
def Obligations.BusyCommandIsRefused : Prop :=
  ∀ (i : Instr) (s : State), isCommand i = true → s.fsm ≠ .idle →
    exec i s = .next { s with refused := true, refusals := s.refusals ++ [.busyCommand] }

/-- R152, with R150 and R205: the word of OPEN, and the state it leaves. -/
def Obligations.OpenStartsAFreshSession : Prop :=
  decodeCommand 0x00000001#32 = .ok .openSession ∧
  ∀ s : State, s.fsm = .idle →
    exec .openSession s = .next { s with
      tog := false, sreq := true, wtxCnt := 0, wtxTotal := 0, wtxM := 0#8
      rxcap := 0, rxbuf := [], txbuf := [], pl := [], cmdN := 0#16, cmdOp := 0x1#4
      status := 0#3, errPhase := 0#3, dout := [], vout := 0#16, done := true, fsm := .idle }

/-- R153, with R150 and R205: an EXCHANGE with a long enough response is accepted, or completes `PayloadTooLarge`
with no register but the completion registers and the opcode latch written. -/
def Obligations.ExchangeAcceptance : Prop :=
  ∀ (n : Word16) (s : State), s.fsm = .idle → 3 ≤ n.toNat →
    (s.din.length + 3 ≤ s.cfg.maxFrame →
      exec (.exchange n) s = .next { s with
        done := false, cmdOp := 0x2#4, pl := s.din, cmdN := n, rxcap := max s.rxcap n.toNat
        wtxCnt := 0, wtxTotal := 0, fsm := if s.sreq then .sessionRequested else .sendI }) ∧
    (s.cfg.maxFrame < s.din.length + 3 →
      exec (.exchange n) s = .next { s with
        done := true, cmdOp := 0x2#4, status := 4#3, errPhase := 0#3, dout := [], vout := 0#16 })

/-- R153, R209: an EXCHANGE with `n < 3` is refused, whatever its payload; that no register changes is the model's
choice (notes/assumptions/4.md, 5.md). -/
def Obligations.ShortExchangeIsRefused : Prop :=
  ∀ (n : Word16) (s : State), s.fsm = .idle → n.toNat < 3 →
    exec (.exchange n) s = .next { s with refused := true, refusals := s.refusals ++ [.shortExpectedLength] }

/-- R171, with R150: DESELECT is accepted whatever `sreq` is, and sends nothing yet. -/
def Obligations.DeselectAcceptance : Prop :=
  ∀ s : State, s.fsm = .idle →
    exec .deselect s = .next { s with
      done := false, cmdOp := 0x3#4, rxcap := max s.rxcap s.cfg.deselAckLen, fsm := .deselecting }

/-- R109: the word of CRC16; the CRC of `DIN` from the operand seed, accepted only in `IDLE`. -/
def Obligations.Crc16CommandResult : Prop :=
  ∀ (seed : Word16) (s : State),
    decodeCommand (seed ++ 0x0004#16) = .ok (.crc16 seed) ∧
    (s.fsm = .idle →
      exec (.crc16 seed) s = .next { s with
        cmdOp := 0x4#4, crcAcc := crcReg s.cfg s.din seed, vout := crc16 s.cfg s.din seed, dout := []
        status := 0#3, errPhase := 0#3, done := true, fsm := .idle }) ∧
    (s.fsm ≠ .idle → ∃ t, exec (.crc16 seed) s = .next t ∧ t.refused = true ∧ t.done = s.done ∧ t.vout = s.vout)

/-- R110: the word of VALIDATE; the validity of `DIN`, accepted only in `IDLE`; an invalid frame is no error. What the
CRC accumulator is left at is not observable (R32) and is left open here. -/
def Obligations.ValidateCommandResult : Prop :=
  decodeCommand 0x00000008#32 = .ok .validate ∧
  ∀ s : State,
    (s.fsm = .idle → ∃ acc : Word16,
      exec .validate s = .next { s with
        cmdOp := 0x8#4, crcAcc := acc
        vout := if valid s.cfg s.din then 1#16 else 0#16, dout := []
        status := 0#3, errPhase := 0#3, done := true, fsm := .idle }) ∧
    (s.fsm ≠ .idle → ∃ t, exec .validate s = .next t ∧ t.refused = true ∧ t.done = s.done ∧ t.vout = s.vout)

/-- R122: the word of ENC_I; it builds the I-block of its operand toggle and `DIN`, or completes `PayloadTooLarge`; `tog` is neither
read nor flipped. -/
def Obligations.EncICommandResult : Prop :=
  (∀ t : Bool, decodeCommand (if t then 0x00000015#32 else 0x00000005#32) = .ok (.encI t)) ∧
  ∀ (t : Bool) (s : State), s.fsm = .idle →
    (s.din.length + 3 ≤ s.cfg.maxFrame →
      exec (.encI t) s = .next { s with
        cmdOp := 0x5#4, crcAcc := crcReg s.cfg (iBlockPcb s.cfg t :: s.din) s.cfg.crcSeed
        dout := appendCrc s.cfg (iBlockPcb s.cfg t :: s.din), vout := 0#16
        status := 0#3, errPhase := 0#3, done := true, fsm := .idle }) ∧
    (s.cfg.maxFrame < s.din.length + 3 →
      exec (.encI t) s = .next { s with
        cmdOp := 0x5#4, dout := [], vout := 0#16, status := 4#3, errPhase := 0#3, done := true, fsm := .idle })

/-- R125: the words of ENC_S, with a multiplier field that must be 0 for S(DESELECT); it builds S(DESELECT), or S(WTX)
with the operand multiplier unmasked. -/
def Obligations.EncSCommandResult : Prop :=
  decodeCommand 0x00000006#32 = .ok .encSDeselect ∧
  (∀ m : Byte, decodeCommand (0#16 ++ m ++ 0x16#8) = .ok (.encSWtx m)) ∧
  (∀ m : Byte, m ≠ 0#8 → decodeCommand (0#16 ++ m ++ 0x06#8) = .error .reservedEncoding) ∧
  ∀ (m : Byte) (s : State), s.fsm = .idle →
    exec .encSDeselect s = .next { s with
      cmdOp := 0x6#4, crcAcc := crcReg s.cfg [s.cfg.pcbSDeselect] s.cfg.crcSeed
      dout := appendCrc s.cfg [s.cfg.pcbSDeselect], vout := 0#16
      status := 0#3, errPhase := 0#3, done := true, fsm := .idle } ∧
    exec (.encSWtx m) s = .next { s with
      cmdOp := 0x6#4, crcAcc := crcReg s.cfg [s.cfg.pcbSWtx, m] s.cfg.crcSeed
      dout := appendCrc s.cfg [s.cfg.pcbSWtx, m], vout := 0#16
      status := 0#3, errPhase := 0#3, done := true, fsm := .idle }

/-- R127: the word of IS_WTX; it compares its operand with the marker. -/
def Obligations.IsWtxCommandResult : Prop :=
  (∀ b : Byte, decodeCommand (0#16 ++ b ++ 0x07#8) = .ok (.isWtx b)) ∧
  ∀ (b : Byte) (s : State), s.fsm = .idle →
    exec (.isWtx b) s = .next { s with
      cmdOp := 0x7#4, vout := if b = 0xF2#8 then 1#16 else 0#16, dout := []
      status := 0#3, errPhase := 0#3, done := true, fsm := .idle }

/-! ### The outbound frames -/

/-- R156: the session-request word goes out as it stands; the flag is cleared by a successful write unless it
persists, and kept by a failed one. -/
def Obligations.SessionRequestStep : Prop :=
  ∀ s : State, s.fsm = .sessionRequested → s.cfg.sreqWord.length ≤ s.cfg.maxFrame →
    (s.answer = some .writeOk →
      exec .sessionRequestWord s = .next { s with
        txbuf := s.cfg.sreqWord, hist := s.hist ++ [⟨.write s.devAddr s.cfg.sreqWord, some .writeOk⟩]
        pending := none, answer := none
        sreq := if s.cfg.sreqPersist then s.sreq else false, fsm := .sendI }) ∧
    (s.answer = some .error →
      exec .sessionRequestWord s = .next { s with
        txbuf := s.cfg.sreqWord, hist := s.hist ++ [⟨.write s.devAddr s.cfg.sreqWord, some .error⟩]
        pending := none, answer := none
        status := 1#3, errPhase := 1#3, dout := [], vout := 0#16, done := true, fsm := .idle })

/-- R158, R72: the I-block of the present toggle goes out and the toggle flips, whether or not the write succeeds. -/
def Obligations.IBlockStep : Prop :=
  ∀ (t : Bool) (p : Bytes) (s : State), s.fsm = .sendI → s.tog = t → s.pl = p → p.length + 3 ≤ s.cfg.maxFrame →
    let pcb : Byte := if t then s.cfg.iPcbBase ||| 1#8 else s.cfg.iPcbBase
    let f : Bytes := appendCrc s.cfg (pcb :: p)
    (s.answer = some .writeOk →
      exec (if t then .iBlockToggle1 p else .iBlockToggle0 p) s = .next { s with
        txbuf := f, tog := !t, crcAcc := crcReg s.cfg (pcb :: p) s.cfg.crcSeed
        hist := s.hist ++ [⟨.write s.devAddr f, some .writeOk⟩], pending := none, answer := none
        fsm := .awaitingResponse }) ∧
    (s.answer = some .error →
      exec (if t then .iBlockToggle1 p else .iBlockToggle0 p) s = .next { s with
        txbuf := f, tog := !t, crcAcc := crcReg s.cfg (pcb :: p) s.cfg.crcSeed
        hist := s.hist ++ [⟨.write s.devAddr f, some .error⟩], pending := none, answer := none
        status := 1#3, errPhase := 2#3, dout := [], vout := 0#16, done := true, fsm := .idle })

/-- R167, R74: the acknowledgement carries the multiplier of the request, and the next step reads again. -/
def Obligations.WtxAckStep : Prop :=
  ∀ (m : Byte) (s : State), s.fsm = .wtxAck → s.wtxM = m → 4 ≤ s.cfg.maxFrame →
    let f : Bytes := appendCrc s.cfg [s.cfg.pcbSWtx, m]
    (s.answer = some .writeOk →
      exec (.sWtxAck m) s = .next { s with
        txbuf := f, crcAcc := crcReg s.cfg [s.cfg.pcbSWtx, m] s.cfg.crcSeed
        hist := s.hist ++ [⟨.write s.devAddr f, some .writeOk⟩], pending := none, answer := none
        fsm := .awaitingResponse }) ∧
    (s.answer = some .error →
      exec (.sWtxAck m) s = .next { s with
        txbuf := f, crcAcc := crcReg s.cfg [s.cfg.pcbSWtx, m] s.cfg.crcSeed
        hist := s.hist ++ [⟨.write s.devAddr f, some .error⟩], pending := none, answer := none
        status := 1#3, errPhase := 5#3, dout := [], vout := 0#16, done := true, fsm := .idle })

/-- R172, R174, R73: S(DESELECT) goes out, the bytes C2 E0 B4 with the values R6 takes from the source; a failed write
resets the session too. -/
def Obligations.DeselectStep : Prop :=
  ∀ s : State, s.fsm = .deselecting → 4 ≤ s.cfg.maxFrame →
    let f : Bytes := appendCrc s.cfg [s.cfg.pcbSDeselect]
    (s.cfg.sourceValues = true → f = [0xC2#8, 0xE0#8, 0xB4#8]) ∧
    (s.answer = some .writeOk →
      exec .sDeselect s = .next { s with
        txbuf := f, crcAcc := crcReg s.cfg [s.cfg.pcbSDeselect] s.cfg.crcSeed
        hist := s.hist ++ [⟨.write s.devAddr f, some .writeOk⟩], pending := none, answer := none
        fsm := .deselAck }) ∧
    (s.answer = some .error →
      exec .sDeselect s = .next { s with
        txbuf := f, crcAcc := crcReg s.cfg [s.cfg.pcbSDeselect] s.cfg.crcSeed, tog := false, sreq := true
        hist := s.hist ++ [⟨.write s.devAddr f, some .error⟩], pending := none, answer := none
        status := 1#3, errPhase := 6#3, dout := [], vout := 0#16, done := true, fsm := .idle })

/-! ### The inbound frames -/

/-- R160 to R163: a complete, valid WTX request within both ceilings is accepted for service; bytes after the fourth
are ignored. That the check runs the CRC over the bytes before the check bytes, and leaves that value in `crc_acc`, is
the model's choice (notes/assumptions/13.md). -/
def Obligations.WtxRequestIsServed : Prop :=
  ∀ (m b2 b3 : Byte) (extra : Bytes) (s : State), s.fsm = .awaitingResponse →
    extra.length + 4 ≤ s.cmdN.toNat → s.cmdN.toNat ≤ s.rxcap →
    (s.cfg.rxCrcCheck = true → valid s.cfg [0xF2#8, m, b2, b3] = true) →
    boundAdmits s.cfg.wtxMaxRetries (s.wtxCnt + 1) = true →
    boundAdmits s.cfg.wtxMaxWait (s.wtxTotal + s.cfg.wtxBaseUnit * m.toNat) = true →
    let r : Bytes := 0xF2#8 :: m :: b2 :: b3 :: extra
    exec (.wtxRequest (m :: b2 :: b3 :: extra)) s = .next { s with
      rxbuf := r, hist := s.hist ++ [⟨.read s.devAddr s.cmdN.toNat, some (.readOk r)⟩]
      pending := none, answer := none
      crcAcc := if s.cfg.rxCrcCheck then crcReg s.cfg [0xF2#8, m] s.cfg.crcSeed else s.crcAcc
      wtxM := m, wtxCnt := s.wtxCnt + 1, wtxTotal := s.wtxTotal + s.cfg.wtxBaseUnit * m.toNat
      fsm := .wtxWait }

/-- R161, R162, R209: the checks of a WTX request that fails, in their order: length, check bytes, ceilings. Nothing
is waited for, and `tog`, `sreq` and the counters keep their values. The value of `crc_acc` is the model's choice
(notes/assumptions/13.md). -/
def Obligations.WtxRequestFailures : Prop :=
  ∀ (tail : Bytes) (s : State), s.fsm = .awaitingResponse →
    tail.length + 1 ≤ s.cmdN.toNat → s.cmdN.toNat ≤ s.rxcap →
    let r : Bytes := 0xF2#8 :: tail
    let m : Nat := (tail.headD 0#8).toNat
    let read : State := { s with
      rxbuf := r, hist := s.hist ++ [⟨.read s.devAddr s.cmdN.toNat, some (.readOk r)⟩]
      pending := none, answer := none, errPhase := 3#3, dout := [], vout := 0#16, done := true, fsm := .idle }
    let checked : State := if s.cfg.rxCrcCheck then { read with crcAcc := crcReg s.cfg (r.take 2) s.cfg.crcSeed } else read
    (tail.length < 3 → exec (.wtxRequest tail) s = .next { read with status := 3#3 }) ∧
    (3 ≤ tail.length → s.cfg.rxCrcCheck = true → valid s.cfg (r.take 4) = false →
      exec (.wtxRequest tail) s = .next { checked with status := 2#3 }) ∧
    (3 ≤ tail.length → (s.cfg.rxCrcCheck = true → valid s.cfg (r.take 4) = true) →
      (boundAdmits s.cfg.wtxMaxRetries (s.wtxCnt + 1) = false ∨
        boundAdmits s.cfg.wtxMaxWait (s.wtxTotal + s.cfg.wtxBaseUnit * m) = false) →
      exec (.wtxRequest tail) s = .next { checked with status := 5#3 })

/-- R160, R164, R165, R126: a response is returned without its check bytes, its PCB kept and not compared; a short
one or an invalid one ends the command with its error. The value of `crc_acc` is the model's choice
(notes/assumptions/13.md). -/
def Obligations.ResponseStep : Prop :=
  ∀ (r : Bytes) (s : State), s.fsm = .awaitingResponse → r.length ≤ s.cmdN.toNat → s.cmdN.toNat ≤ s.rxcap →
    3 ≤ s.cmdN.toNat →
    let read : State := { s with
      rxbuf := r, hist := s.hist ++ [⟨.read s.devAddr s.cmdN.toNat, some (.readOk r)⟩]
      pending := none, answer := none, vout := 0#16, done := true, fsm := .idle }
    let checked : State :=
      if s.cfg.rxCrcCheck then { read with crcAcc := crcReg s.cfg (r.take (r.length - 2)) s.cfg.crcSeed } else read
    (r.length = s.cmdN.toNat → (s.cfg.rxCrcCheck = true → valid s.cfg r = true) →
      exec (.substantiveResponse r) s = .next { checked with
        status := 0#3, errPhase := 0#3, dout := r.take (r.length - 2) }) ∧
    (r.length < s.cmdN.toNat →
      exec (.substantiveResponse r) s = .next { read with status := 3#3, errPhase := 3#3, dout := [] }) ∧
    (r.length = s.cmdN.toNat → s.cfg.rxCrcCheck = true → valid s.cfg r = false →
      exec (.substantiveResponse r) s = .next { checked with status := 2#3, errPhase := 3#3, dout := [] })

/-- R173, R174: every completion of DESELECT resets the session; the acknowledgement's first byte is not checked. The
value of `crc_acc` is the model's choice (notes/assumptions/13.md). -/
def Obligations.DeselectAckStep : Prop :=
  ∀ (r : Bytes) (s : State), s.fsm = .deselAck → r.length ≤ s.cfg.deselAckLen → s.cfg.deselAckLen ≤ s.rxcap →
    3 ≤ s.cfg.deselAckLen →
    let read : State := { s with
      rxbuf := r, hist := s.hist ++ [⟨.read s.devAddr s.cfg.deselAckLen, some (.readOk r)⟩]
      pending := none, answer := none, tog := false, sreq := true
      dout := [], vout := 0#16, done := true, fsm := .idle }
    let checked : State :=
      if s.cfg.rxCrcCheck then { read with crcAcc := crcReg s.cfg (r.take (r.length - 2)) s.cfg.crcSeed } else read
    (r.length = s.cfg.deselAckLen → (s.cfg.rxCrcCheck = true → valid s.cfg r = true) →
      exec (.deselectAck r) s = .next { checked with status := 0#3, errPhase := 0#3 }) ∧
    (r.length < s.cfg.deselAckLen →
      exec (.deselectAck r) s = .next { read with status := 3#3, errPhase := 7#3 }) ∧
    (r.length = s.cfg.deselAckLen → s.cfg.rxCrcCheck = true → valid s.cfg r = false →
      exec (.deselectAck r) s = .next { checked with status := 2#3, errPhase := 7#3 })

/-- R56: a read answer longer than requested is refused. That the read then stands unanswered and no register changes
is the model's choice (notes/assumptions/4.md). -/
def Obligations.OverlongReadIsRefused : Prop :=
  ∀ (r tail : Bytes) (s : State),
    (s.fsm = .awaitingResponse → s.cmdN.toNat < r.length →
      exec (.substantiveResponse r) s = .next { s with
        pending := some (.read s.devAddr s.cmdN.toNat), answer := none
        refused := true, refusals := s.refusals ++ [.transportOverlong] }) ∧
    (s.fsm = .awaitingResponse → s.cmdN.toNat < tail.length + 1 →
      exec (.wtxRequest tail) s = .next { s with
        pending := some (.read s.devAddr s.cmdN.toNat), answer := none
        refused := true, refusals := s.refusals ++ [.transportOverlong] }) ∧
    (s.fsm = .deselAck → s.cfg.deselAckLen < r.length →
      exec (.deselectAck r) s = .next { s with
        pending := some (.read s.devAddr s.cfg.deselAckLen), answer := none
        refused := true, refusals := s.refusals ++ [.transportOverlong] })

/-! ### The machine's step -/

/-- R150, R155, R21: what the sequencer fetches and decodes is what the step runs, after the act that brought it is
taken from `inbox`. -/
def Obligations.StepRunsTheDecodedInstruction : Prop :=
  ∀ (s : State) (x : Fetched) (i : Instr), configValid s.cfg = true → fetch s = some x → decode s.cfg x = .ok i →
    step s = exec i (serve s)

/-- R80, R150, R82: a Host write of `CMD` runs the instruction its word decodes to; a word of no row is refused, as
busy first, and no register changes. -/
def Obligations.CommandWriteRunsItsRow : Prop :=
  ∀ (s : State) (w : Word32) (rest : List Input), configValid s.cfg = true →
    s.inbox = .hostWrite 0 (.word32 w) :: rest →
    (∀ i, decodeCommand w = .ok i → step s = exec i { s with inbox := rest, answer := none }) ∧
    (∀ e, decodeCommand w = .error e →
      step s = .next { s with
        inbox := rest, answer := none, refused := true
        refusals := s.refusals ++ [if s.fsm = .idle then .reservedEncoding else .busyCommand] })

/-- R156, R158, R167, R172, R155: when the Transport answers the write of the present state, the step is that of the
frame that the Engine's own registers make. -/
def Obligations.AnsweredWriteRunsTheDueFrame : Prop :=
  ∀ (s : State) (a : Answer) (rest : List Input), MachineInv s → s.inbox = .answer s.hist.length a :: rest →
    a = .writeOk ∨ a = .error →
    let served : State := { s with inbox := rest, answer := some a }
    (s.fsm = .sessionRequested → step s = exec .sessionRequestWord served) ∧
    (s.fsm = .sendI → step s = exec (iBlockInstr s.tog s.pl) served) ∧
    (s.fsm = .wtxAck → step s = exec (.sWtxAck s.wtxM) served) ∧
    (s.fsm = .deselecting → step s = exec .sDeselect served)

/-- R75, R76, R77, R79, R160, R173: a read answered with bytes runs the inbound frame of its first byte in
`AWAITING_RESPONSE`, and the acknowledgement in `DESEL_ACK` whatever its first byte. -/
def Obligations.AnsweredReadRunsItsFrame : Prop :=
  ∀ (s : State) (r : Bytes) (rest : List Input), configValid s.cfg = true →
    s.inbox = .answer s.hist.length (.readOk r) :: rest →
    let served : State := { s with inbox := rest, answer := some (.readOk r) }
    (s.fsm = .awaitingResponse → ∀ tail, r = 0xF2#8 :: tail → step s = exec (.wtxRequest tail) served) ∧
    (s.fsm = .awaitingResponse → r.head? ≠ some 0xF2#8 → step s = exec (.substantiveResponse r) served) ∧
    (s.fsm = .deselAck → step s = exec (.deselectAck r) served)

/-- R160, R173, R174, R202: a failed read ends the command with `TransportError`; in `DESEL_ACK` the session is
reset. -/
def Obligations.FailedReadStep : Prop :=
  ∀ (s : State) (rest : List Input), configValid s.cfg = true → s.inbox = .answer s.hist.length .error :: rest →
    (s.fsm = .awaitingResponse →
      step s = .next { s with
        inbox := rest, hist := s.hist ++ [⟨.read s.devAddr s.cmdN.toNat, some .error⟩]
        pending := none, answer := none
        status := 1#3, errPhase := 3#3, dout := [], vout := 0#16, done := true, fsm := .idle }) ∧
    (s.fsm = .deselAck →
      step s = .next { s with
        inbox := rest, hist := s.hist ++ [⟨.read s.devAddr s.cfg.deselAckLen, some .error⟩]
        pending := none, answer := none, tog := false, sreq := true
        status := 1#3, errPhase := 7#3, dout := [], vout := 0#16, done := true, fsm := .idle })

/-- R166: the step of `WTX_WAIT` records the wait of `P_WTX_BASE_UNIT * wtx_m`, even a wait of 0, and goes on to the
acknowledgement. -/
def Obligations.WtxWaitStep : Prop :=
  ∀ (s : State) (rest : List Input), configValid s.cfg = true → s.fsm = .wtxWait →
    s.inbox = .answer s.hist.length .timer :: rest →
    step s = .next { s with
      inbox := rest, hist := s.hist ++ [⟨.wait (s.cfg.wtxBaseUnit * s.wtxM.toNat), some .timer⟩]
      pending := none, answer := none, fsm := .wtxAck }

/-- R155, R41: with no agent acting, a busy Engine issues its one request, which changes nothing but `pending`; with
the request outstanding it is stuck, and in `IDLE` it waits for the Host. That `pending` holds the request before its
answer comes is the model's reading of R41 and R155 (notes/assumptions/7.md), and the names of the stuck outcomes are
the model's (notes/assumptions/11.md). -/
def Obligations.RequestStandsUntilAnswered : Prop :=
  ∀ s : State, MachineInv s → s.inbox = [] →
    (s.fsm ≠ .idle → s.pending = none →
      s.dueRequest ≠ none ∧ step s = .next { s with pending := s.dueRequest }) ∧
    (s.fsm = .idle → step s = .fault .awaitingHost) ∧
    (s.fsm = .wtxWait → s.pending ≠ none → step s = .fault .awaitingTimer) ∧
    (s.fsm ≠ .idle → s.fsm ≠ .wtxWait → s.pending ≠ none → step s = .fault .awaitingTransport)

/-- R230: the late answer of a request that a reset abandoned is discarded and not recorded. That an answer names its
request by the place in `hist`, where the abandoned request stands unanswered, is the model's choice
(notes/assumptions/7.md, 10.md). -/
def Obligations.LateAnswerIsDiscarded : Prop :=
  ∀ (s : State) (k : Nat) (a : Answer) (rest : List Input), configValid s.cfg = true →
    s.inbox = .answer k a :: rest → (∃ q, s.hist[k]? = some ⟨q, none⟩) → step s = .next { s with inbox := rest }

/-- R230, R210: the reset input, in any state, sets every register to its reset value; `refused` and `hist` are not
cleared. That an abandoned request is left in `hist` without an answer is the model's reading
(notes/assumptions/7.md). -/
def Obligations.ResetInputSetsEveryRegister : Prop :=
  ∀ (s : State) (rest : List Input), configValid s.cfg = true → s.inbox = .reset :: rest →
    ∃ t, step s = .next t ∧
      t.fsm = .idle ∧ t.tog = false ∧ t.sreq = true ∧ t.devAddr = s.cfg.devAddr ∧
      t.wtxCnt = 0 ∧ t.wtxTotal = 0 ∧ t.wtxM = 0#8 ∧ t.cmdOp = 0#4 ∧ t.cmdN = 0#16 ∧ t.pl = [] ∧
      t.rxcap = 0 ∧ t.rxbuf = [] ∧ t.txbuf = [] ∧ t.crcAcc = 0x6363#16 ∧
      t.done = false ∧ t.status = 0#3 ∧ t.errPhase = 0#3 ∧ t.dout = [] ∧ t.vout = 0#16 ∧ t.din = [] ∧
      t.pending = none ∧ t.refused = s.refused ∧ t.refusals = s.refusals ∧
      t.cfg = s.cfg ∧ t.inbox = rest ∧
      (s.pending = none → t.hist = s.hist) ∧
      ∀ q, s.pending = some q → t.hist = s.hist ++ [⟨q, none⟩]

/-- R230, R39, R22 to R41: every value the spec gives for reset, in every configuration. That the machine's own reset
state has configuration T is the model's choice (notes/assumptions/2.md). -/
def Obligations.ResetStateValues : Prop :=
  (∀ cfg : Config,
    let r : State := State.resetWith cfg
    r.fsm = .idle ∧ r.tog = false ∧ r.sreq = true ∧ r.devAddr = cfg.devAddr ∧
    r.wtxCnt = 0 ∧ r.wtxTotal = 0 ∧ r.wtxM = 0#8 ∧ r.cmdOp = 0#4 ∧ r.cmdN = 0#16 ∧ r.pl = [] ∧
    r.rxcap = 0 ∧ r.rxbuf = [] ∧ r.txbuf = [] ∧ r.crcAcc = 0x6363#16 ∧
    r.done = false ∧ r.status = 0#3 ∧ r.errPhase = 0#3 ∧ r.dout = [] ∧ r.vout = 0#16 ∧ r.din = [] ∧
    r.refused = false ∧ r.hist = [] ∧ r.pending = none ∧ r.statusWord = 0x0200#16) ∧
  State.reset = State.resetWith Config.test

/-- R7, R11, R208: a configuration outside the constraints is refused. That a step of such a block, the reset input's
too, then sets only the mark and changes no register is the model's choice (notes/assumptions/17.md, 4.md); what becomes
of the acts that wait is left open. -/
def Obligations.BadConfigurationIsRefused : Prop :=
  ∀ s : State,
    (s.cfg.iPcbBase.toNat % 2 = 1 ∨ s.cfg.iPcbBase = 0xF2#8 ∨ s.cfg.maxFrame < 4 ∨ 65535 < s.cfg.maxFrame ∨
      s.cfg.sreqWord = [] ∨ s.cfg.maxFrame < s.cfg.sreqWord.length ∨ s.cfg.deselAckLen < 3) →
    ∃ acts : List Input,
      step s = .next { s with inbox := acts, refused := true, refusals := s.refusals ++ [.badConfiguration] }

/-! ### The host port -/

/-- R39: every bit of `STATUS`. -/
def Obligations.StatusFields : Prop :=
  ∀ s : State,
    s.statusWord.getLsbD 0 = decide (s.fsm ≠ .idle) ∧
    s.statusWord.getLsbD 1 = s.done ∧
    s.statusWord.extractLsb' 2 3 = s.status ∧
    s.statusWord.extractLsb' 5 3 = s.errPhase ∧
    s.statusWord.getLsbD 8 = s.tog ∧
    s.statusWord.getLsbD 9 = s.sreq ∧
    s.statusWord.extractLsb' 10 3 = fsmCode s.fsm ∧
    s.statusWord.extractLsb' 13 3 = 0#3 ∧
    ∀ cfg : Config, (State.resetWith cfg).statusWord = 0x0200#16

/-- R38, R39: the three readable registers are read without changing any register. -/
def Obligations.HostReadsResultRegisters : Prop :=
  ∀ (s : State) (reg : Nat) (rest : List Input), configValid s.cfg = true → s.inbox = .hostRead reg :: rest →
    (reg = 1 → step s = .next { s with inbox := rest, readout := some (.word16 s.statusWord) }) ∧
    (reg = 2 → step s = .next { s with inbox := rest, readout := some (.word16 s.vout) }) ∧
    (reg = 4 → step s = .next { s with inbox := rest, readout := some (.bytes s.dout) })

/-- R40, R63: a write of `DIN` replaces its whole content, busy or not, and changes nothing else. -/
def Obligations.DinWriteReplacesContent : Prop :=
  ∀ (s : State) (b : Bytes) (rest : List Input), configValid s.cfg = true → b.length ≤ 65535 →
    s.inbox = .hostWrite 3 (.bytes b) :: rest → step s = .next { s with inbox := rest, din := b }

/-- R40: a write of a read-only or absent register, and a read of a write-only or absent one, are refused. That a refusal
changes no register is the model's choice (notes/assumptions/4.md). -/
def Obligations.BadRegisterAccessIsRefused : Prop :=
  ∀ (s : State) (reg : Nat) (v : PortValue) (rest : List Input), configValid s.cfg = true →
    (s.inbox = .hostWrite reg v :: rest → reg ≠ 0 → reg ≠ 3 →
      step s = .next { s with
        inbox := rest, refused := true, refusals := s.refusals ++ [.badRegisterAccess] }) ∧
    (s.inbox = .hostRead reg :: rest → reg = 0 ∨ reg = 3 ∨ 5 ≤ reg →
      step s = .next { s with
        inbox := rest, refused := true, refusals := s.refusals ++ [.badRegisterAccess] })

/-- R84: the writes a command line assembles to run its command on its byte string. -/
def Obligations.AssembledLineRunsItsCommand : Prop :=
  ∀ (l : AsmLine) (s : State) (rest : List Input), MachineInv s → s.inbox = assemble s.cfg l ++ rest →
    ((asmData l).getD []).length ≤ 65535 →
    runFor (assemble s.cfg l).length s =
      exec (asmInstr l) { s with inbox := rest, din := (asmData l).getD s.din, answer := none }

/-! ### Whole-machine rules -/

/-- The invariant of the reset state. -/
def Obligations.ResetStateMeetsInv : Prop :=
  configValid Config.test = true ∧ ∀ cfg : Config, configValid cfg = true → MachineInv (State.resetWith cfg)

/-- R23, R26, R27, R30, R31, R41, R51, R59, R201: every step keeps the invariant: no buffer passes its capacity, the
WTX counters stay within their ceilings, the result registers are a row of R201, the latch fits the command in
progress, and the one outstanding request is the request of the present state. -/
def Obligations.StepKeepsInv : Prop :=
  ∀ s t : State, MachineInv s → step s = .next t → MachineInv t

/-- R11: in a state that a run reaches, no step is refused by the host's interface, and a step stops only where
nothing is left to act: no ordinary data ends a run. Stuck is the outcome `fault` (notes/assumptions/11.md). -/
def Obligations.StepGoesOnWhileAnAgentActs : Prop :=
  ∀ s : State, MachineInv s →
    (s.inbox ≠ [] → ∃ t, step s = .next t) ∧
    (∀ r, step s ≠ .refused r) ∧
    (∀ f, step s = .fault f → s.inbox = [] ∧ (s.fsm = .idle ∨ s.pending ≠ none))

/-- R41, R58, R155, R42, R11: a step adds at most one event to `hist` and takes none away, no step clears the refusal
mark, and no step changes the configuration. -/
def Obligations.HistoryGrowsAndMarkSticks : Prop :=
  ∀ s t : State, step s = .next t →
    (∃ es : List Event, t.hist = s.hist ++ es ∧ es.length ≤ 1) ∧
    (s.refused = true → t.refused = true) ∧ t.cfg = s.cfg

/-- R23: the toggle is written only by the I-block step, which flips it, and by reset, OPEN and the completion of
DESELECT, which set it to 0. -/
def Obligations.ToggleIsWrittenOnlyBySendAndReset : Prop :=
  ∀ s t : State, step s = .next t → t.tog ≠ s.tog →
    s.fsm = .sendI ∨
    (t.tog = false ∧ t.fsm = .idle ∧
      (s.fsm = .deselecting ∨ s.fsm = .deselAck ∨ s.inbox.head? = some .reset ∨
        (s.fsm = .idle ∧ s.inbox.head? = some (.hostWrite 0 (.word32 0x00000001#32)))))

/-- R24: the session-request flag is cleared only by a successful session-request write, and only where it does not
persist. -/
def Obligations.SessionFlagClearedOnlyByItsWrite : Prop :=
  ∀ s t : State, step s = .next t → s.sreq = true → t.sreq = false →
    s.fsm = .sessionRequested ∧ s.cfg.sreqPersist = false ∧ t.fsm = .sendI ∧
    t.hist = s.hist ++ [⟨.write s.devAddr s.cfg.sreqWord, some .writeOk⟩]

/-- R155, R150, R63: while a command is in progress no act of the Host moves the Engine: only `DIN`, the value read,
and the refusal mark can change. -/
def Obligations.HostCannotMoveABusyEngine : Prop :=
  ∀ (s t : State) (a : Input) (rest : List Input), MachineInv s → s.fsm ≠ .idle → s.inbox = a :: rest →
    (∃ reg v, a = .hostWrite reg v) ∨ (∃ reg, a = .hostRead reg) → step s = .next t →
    t = { s with
      inbox := rest, din := t.din, readout := t.readout, refused := t.refused, refusals := t.refusals }

/-- R60: between the acceptance of a WTX request and its acknowledgement, only reset ends the wait: no command is
accepted and no I-block is written. -/
def Obligations.NoCommandDuringWtxService : Prop :=
  ∀ s t : State, MachineInv s → s.fsm = .wtxWait ∨ s.fsm = .wtxAck → s.inbox.head? ≠ some .reset → step s = .next t →
    t.pl = s.pl ∧ t.cmdN = s.cmdN ∧ t.cmdOp = s.cmdOp ∧ t.tog = s.tog ∧
    (t.hist = s.hist ∨
      (∃ a, t.hist = s.hist ++ [⟨.write s.devAddr (encodeSWtx s.cfg s.wtxM), some a⟩]) ∨
      t.hist = s.hist ++ [⟨.wait s.waitTime, some .timer⟩])

/-- R70, R78, R103: every byte string a step writes to the Transport is the session-request word or a valid frame no
longer than the ceiling. -/
def Obligations.EveryWriteIsAWordOrAValidFrame : Prop :=
  ∀ (s t : State) (addr : Nat) (f : Bytes) (a : Option Answer), MachineInv s → step s = .next t →
    t.hist = s.hist ++ [⟨.write addr f, a⟩] →
    addr = s.cfg.devAddr ∧ f.length ≤ s.cfg.maxFrame ∧ (f = s.cfg.sreqWord ∨ valid s.cfg f = true)

/-- R106, R165, R126: with the CRC check on, an EXCHANGE that completes `OK` gives the Host a response that was
validated, without its check bytes. -/
def Obligations.OnlyValidatedDataReachesTheHost : Prop :=
  ∀ s t : State, MachineInv s → s.cfg.rxCrcCheck = true → s.fsm = .awaitingResponse → step s = .next t →
    t.done = true → t.status = 0#3 →
    ∃ r, t.hist = s.hist ++ [⟨.read s.cfg.devAddr s.cmdN.toNat, some (.readOk r)⟩] ∧
      valid s.cfg r = true ∧ r.length = s.cmdN.toNat ∧ t.dout = r.take (r.length - 2) ∧ notWtx r = true

/-- R176, R205: what the step that ends a command with an error leaves in the session registers, by `err_phase`. -/
def Obligations.FailureLeavesTheSessionConsistent : Prop :=
  ∀ s t : State, MachineInv s → s.fsm ≠ .idle → step s = .next t → t.done = true → t.status ≠ 0#3 →
    t.fsm = .idle ∧ t.errPhase = fsmCode s.fsm ∧ t.dout = [] ∧ t.vout = 0#16 ∧
    t.hist.length = s.hist.length + 1 ∧
    (s.fsm = .sessionRequested → t.tog = s.tog ∧ t.sreq = true) ∧
    (s.fsm = .sendI → t.tog = (!s.tog) ∧ t.sreq = s.sreq) ∧
    (s.fsm = .awaitingResponse ∨ s.fsm = .wtxAck → t.tog = s.tog ∧ t.sreq = s.sreq) ∧
    (s.fsm = .deselecting ∨ s.fsm = .deselAck → t.tog = false ∧ t.sreq = true)

/-! ### Whole commands -/

/-- R169, R173: with a finite retry ceiling, a command in progress whose requests are all answered within the
contract of the ports ends after at most `2 + 3 * P_WTX_MAX_RETRIES + 1` steps, whatever the answers are. -/
def Obligations.AnsweredCommandsEnd : Prop :=
  ∀ (env : State → Answer) (s : State) (k : Nat), MachineInv s → s.fsm ≠ .idle →
    s.cfg.wtxMaxRetries = .fin k → (∀ t : State, MachineInv t → t.fsm ≠ .idle → legalAnswer t (env t) = true) →
    ∃ t, answeredRun env (2 + 3 * k + 1) s = .next t ∧ t.fsm = .idle ∧ t.done = true ∧
      t.hist.length ≤ s.hist.length + (2 + 3 * k + 1)

/-- R168 (2), (3), (4), R153 to R167, R241: an EXCHANGE whose device asks for any list of WTX extensions within the
ceilings and then answers: each request is waited for and acknowledged with its own multiplier, the response is
returned unchanged, and the toggle flips once. Where no refusal came before and no command is left, the run has ended. -/
def Obligations.ExchangeRunsToItsResponse : Prop :=
  ∀ (s : State) (x : Exchange) (rest : List Input), MachineInv s → s.fsm = .idle → exchangeSucceeds s.cfg x = true →
    s.inbox = exchangeScript s.cfg s.sreq s.hist.length x ++ rest →
    ∃ t, runFor (exchangeScript s.cfg s.sreq s.hist.length x).length s = .next t ∧
      t.fsm = .idle ∧ t.done = true ∧ t.status = 0#3 ∧ t.errPhase = 0#3 ∧
      t.dout = x.response.take (x.response.length - 2) ∧ t.vout = 0#16 ∧
      t.tog = (!s.tog) ∧ t.sreq = (s.sreq && s.cfg.sreqPersist) ∧
      t.hist = s.hist ++ exchangeEvents s.cfg s.sreq s.tog x ∧
      t.wtxCnt = x.multipliers.length ∧ t.wtxTotal = (x.multipliers.map (waitOf s.cfg)).sum ∧
      t.inbox = rest ∧ t.refused = s.refused ∧ t.cfg = s.cfg ∧
      (s.refused = false → rest.any isCommandWrite = false → Ended t)

/-- R168 (1): over any number of consecutive successful EXCHANGEs of a session the toggle of the I-blocks strictly
alternates, whatever WTX extensions the device asks for. -/
def Obligations.ToggleAlternatesOverASession : Prop :=
  ∀ (xs : List Exchange) (s : State) (rest : List Input), MachineInv s → s.fsm = .idle →
    (∀ x ∈ xs, exchangeSucceeds s.cfg x = true) →
    s.inbox = sessionScript s.cfg s.sreq s.hist.length xs ++ rest →
    ∃ t, runFor (sessionScript s.cfg s.sreq s.hist.length xs).length s = .next t ∧
      t.hist = s.hist ++ sessionEvents s.cfg s.sreq s.tog xs ∧
      t.tog = toggleAfter s.tog xs.length ∧ t.fsm = .idle ∧ t.inbox = rest

/-- R175: after a successful DESELECT the session is reused without OPEN: the next EXCHANGE writes the
session-request word and an I-block whose PCB is `P_IPCB_BASE`. -/
def Obligations.DeselectResetsTheSession : Prop :=
  ∀ (s : State) (ack : Bytes) (x : Exchange) (rest : List Input), MachineInv s → s.fsm = .idle →
    ack.length = s.cfg.deselAckLen → (s.cfg.rxCrcCheck = true → valid s.cfg ack = true) →
    exchangeSucceeds s.cfg x = true →
    let script := deselectScript s.hist.length ack ++ exchangeScript s.cfg true (s.hist.length + 2) x
    s.inbox = script ++ rest →
    (∃ u, runFor (deselectScript s.hist.length ack).length s = .next u ∧
      u.fsm = .idle ∧ u.tog = false ∧ u.sreq = true ∧ u.done = true ∧ u.status = 0#3) ∧
    ∃ t, runFor script.length s = .next t ∧
      t.hist = s.hist ++ deselectEvents s.cfg ack ++
        ⟨.write s.cfg.devAddr s.cfg.sreqWord, some .writeOk⟩ ::
        ⟨.write s.cfg.devAddr (appendCrc s.cfg (s.cfg.iPcbBase :: x.payload)), some .writeOk⟩ ::
        x.multipliers.flatMap (wtxEvents s.cfg x.response.length) ++
        [⟨.read s.cfg.devAddr x.response.length, some (.readOk x.response)⟩] ∧
      t.tog = true ∧ t.status = 0#3 ∧ t.inbox = rest

/-! ### The contract of the ports -/

/-- R11, R55, R56, R215: an answer outside the contract is refused: one of the wrong kind for the present request, one to
a request not made, a second one to a request already answered, and one of the Timer for a transfer or of the Transport
for a wait. That no register changes, that a wrongly answered transfer then stands issued, and the reason's name are the
model's choice (notes/assumptions/4.md, 22.md). -/
def Obligations.AnswerOutsideContractIsRefused : Prop :=
  ∀ (s : State) (k : Nat) (a : Answer) (rest : List Input), configValid s.cfg = true → s.inbox = .answer k a :: rest →
    let marked : State :=
      { s with inbox := rest, refused := true, refusals := s.refusals ++ [.transportContract] }
    (k = s.hist.length →
      (∃ addr f r, s.dueRequest = some (.write addr f) ∧ a = .readOk r) ∨
        (∃ addr n, s.dueRequest = some (.read addr n) ∧ a = .writeOk) →
      step s = .next { marked with pending := s.dueRequest, answer := none }) ∧
    (k = s.hist.length →
      (∃ addr f, s.dueRequest = some (.write addr f) ∧ a = .timer) ∨
        (∃ addr n, s.dueRequest = some (.read addr n) ∧ a = .timer) ∨
        (∃ d, s.dueRequest = some (.wait d) ∧ a ≠ .timer) →
      step s = .next marked) ∧
    (k = s.hist.length → s.dueRequest = none → step s = .next marked) ∧
    (s.hist.length < k → step s = .next marked) ∧
    ((∃ q b, s.hist[k]? = some ⟨q, some b⟩) → step s = .next marked)
end

