-- ==== Sys2Proof/Laws/State.lean ====
section
/-!
SUPPORT. One lemma per field per named update of the state, true by unfolding, so that no later proof unfolds a record
update.
-/

namespace Sys2Proof.Machine

/-! ### `State.refuse` -/

@[simp] theorem State.refuse_fsm (s : State) (why : RefusalReason) : (s.refuse why).fsm = s.fsm := rfl
@[simp] theorem State.refuse_tog (s : State) (why : RefusalReason) : (s.refuse why).tog = s.tog := rfl
@[simp] theorem State.refuse_sreq (s : State) (why : RefusalReason) : (s.refuse why).sreq = s.sreq := rfl
@[simp] theorem State.refuse_devAddr (s : State) (why : RefusalReason) : (s.refuse why).devAddr = s.devAddr := rfl
@[simp] theorem State.refuse_wtxCnt (s : State) (why : RefusalReason) : (s.refuse why).wtxCnt = s.wtxCnt := rfl
@[simp] theorem State.refuse_wtxTotal (s : State) (why : RefusalReason) : (s.refuse why).wtxTotal = s.wtxTotal := rfl
@[simp] theorem State.refuse_wtxM (s : State) (why : RefusalReason) : (s.refuse why).wtxM = s.wtxM := rfl
@[simp] theorem State.refuse_cmdOp (s : State) (why : RefusalReason) : (s.refuse why).cmdOp = s.cmdOp := rfl
@[simp] theorem State.refuse_cmdN (s : State) (why : RefusalReason) : (s.refuse why).cmdN = s.cmdN := rfl
@[simp] theorem State.refuse_pl (s : State) (why : RefusalReason) : (s.refuse why).pl = s.pl := rfl
@[simp] theorem State.refuse_rxcap (s : State) (why : RefusalReason) : (s.refuse why).rxcap = s.rxcap := rfl
@[simp] theorem State.refuse_rxbuf (s : State) (why : RefusalReason) : (s.refuse why).rxbuf = s.rxbuf := rfl
@[simp] theorem State.refuse_txbuf (s : State) (why : RefusalReason) : (s.refuse why).txbuf = s.txbuf := rfl
@[simp] theorem State.refuse_crcAcc (s : State) (why : RefusalReason) : (s.refuse why).crcAcc = s.crcAcc := rfl
@[simp] theorem State.refuse_done (s : State) (why : RefusalReason) : (s.refuse why).done = s.done := rfl
@[simp] theorem State.refuse_status (s : State) (why : RefusalReason) : (s.refuse why).status = s.status := rfl
@[simp] theorem State.refuse_errPhase (s : State) (why : RefusalReason) : (s.refuse why).errPhase = s.errPhase := rfl
@[simp] theorem State.refuse_dout (s : State) (why : RefusalReason) : (s.refuse why).dout = s.dout := rfl
@[simp] theorem State.refuse_vout (s : State) (why : RefusalReason) : (s.refuse why).vout = s.vout := rfl
@[simp] theorem State.refuse_din (s : State) (why : RefusalReason) : (s.refuse why).din = s.din := rfl
@[simp] theorem State.refuse_refused (s : State) (why : RefusalReason) : (s.refuse why).refused = true := rfl
@[simp] theorem State.refuse_hist (s : State) (why : RefusalReason) : (s.refuse why).hist = s.hist := rfl
@[simp] theorem State.refuse_pending (s : State) (why : RefusalReason) : (s.refuse why).pending = s.pending := rfl
@[simp] theorem State.refuse_cfg (s : State) (why : RefusalReason) : (s.refuse why).cfg = s.cfg := rfl
@[simp] theorem State.refuse_inbox (s : State) (why : RefusalReason) : (s.refuse why).inbox = s.inbox := rfl
@[simp] theorem State.refuse_answer (s : State) (why : RefusalReason) : (s.refuse why).answer = s.answer := rfl
@[simp] theorem State.refuse_readout (s : State) (why : RefusalReason) : (s.refuse why).readout = s.readout := rfl
@[simp] theorem State.refuse_refusals (s : State) (why : RefusalReason) : (s.refuse why).refusals = s.refusals ++ [why] := rfl

/-! ### `State.completeOk` -/

@[simp] theorem State.completeOk_fsm (s : State) (x : Bytes) (v : Word16) : (s.completeOk x v).fsm = .idle := rfl
@[simp] theorem State.completeOk_tog (s : State) (x : Bytes) (v : Word16) : (s.completeOk x v).tog = s.tog := rfl
@[simp] theorem State.completeOk_sreq (s : State) (x : Bytes) (v : Word16) : (s.completeOk x v).sreq = s.sreq := rfl
@[simp] theorem State.completeOk_devAddr (s : State) (x : Bytes) (v : Word16) : (s.completeOk x v).devAddr = s.devAddr := rfl
@[simp] theorem State.completeOk_wtxCnt (s : State) (x : Bytes) (v : Word16) : (s.completeOk x v).wtxCnt = s.wtxCnt := rfl
@[simp] theorem State.completeOk_wtxTotal (s : State) (x : Bytes) (v : Word16) : (s.completeOk x v).wtxTotal = s.wtxTotal := rfl
@[simp] theorem State.completeOk_wtxM (s : State) (x : Bytes) (v : Word16) : (s.completeOk x v).wtxM = s.wtxM := rfl
@[simp] theorem State.completeOk_cmdOp (s : State) (x : Bytes) (v : Word16) : (s.completeOk x v).cmdOp = s.cmdOp := rfl
@[simp] theorem State.completeOk_cmdN (s : State) (x : Bytes) (v : Word16) : (s.completeOk x v).cmdN = s.cmdN := rfl
@[simp] theorem State.completeOk_pl (s : State) (x : Bytes) (v : Word16) : (s.completeOk x v).pl = s.pl := rfl
@[simp] theorem State.completeOk_rxcap (s : State) (x : Bytes) (v : Word16) : (s.completeOk x v).rxcap = s.rxcap := rfl
@[simp] theorem State.completeOk_rxbuf (s : State) (x : Bytes) (v : Word16) : (s.completeOk x v).rxbuf = s.rxbuf := rfl
@[simp] theorem State.completeOk_txbuf (s : State) (x : Bytes) (v : Word16) : (s.completeOk x v).txbuf = s.txbuf := rfl
@[simp] theorem State.completeOk_crcAcc (s : State) (x : Bytes) (v : Word16) : (s.completeOk x v).crcAcc = s.crcAcc := rfl
@[simp] theorem State.completeOk_done (s : State) (x : Bytes) (v : Word16) : (s.completeOk x v).done = true := rfl
@[simp] theorem State.completeOk_status (s : State) (x : Bytes) (v : Word16) : (s.completeOk x v).status = 0#3 := rfl
@[simp] theorem State.completeOk_errPhase (s : State) (x : Bytes) (v : Word16) : (s.completeOk x v).errPhase = 0#3 := rfl
@[simp] theorem State.completeOk_dout (s : State) (x : Bytes) (v : Word16) : (s.completeOk x v).dout = x := rfl
@[simp] theorem State.completeOk_vout (s : State) (x : Bytes) (v : Word16) : (s.completeOk x v).vout = v := rfl
@[simp] theorem State.completeOk_din (s : State) (x : Bytes) (v : Word16) : (s.completeOk x v).din = s.din := rfl
@[simp] theorem State.completeOk_refused (s : State) (x : Bytes) (v : Word16) : (s.completeOk x v).refused = s.refused := rfl
@[simp] theorem State.completeOk_hist (s : State) (x : Bytes) (v : Word16) : (s.completeOk x v).hist = s.hist := rfl
@[simp] theorem State.completeOk_pending (s : State) (x : Bytes) (v : Word16) : (s.completeOk x v).pending = s.pending := rfl
@[simp] theorem State.completeOk_cfg (s : State) (x : Bytes) (v : Word16) : (s.completeOk x v).cfg = s.cfg := rfl
@[simp] theorem State.completeOk_inbox (s : State) (x : Bytes) (v : Word16) : (s.completeOk x v).inbox = s.inbox := rfl
@[simp] theorem State.completeOk_answer (s : State) (x : Bytes) (v : Word16) : (s.completeOk x v).answer = s.answer := rfl
@[simp] theorem State.completeOk_readout (s : State) (x : Bytes) (v : Word16) : (s.completeOk x v).readout = s.readout := rfl
@[simp] theorem State.completeOk_refusals (s : State) (x : Bytes) (v : Word16) : (s.completeOk x v).refusals = s.refusals := rfl

/-! ### `State.completeErr` -/

@[simp] theorem State.completeErr_fsm (s : State) (k : ErrorKind) : (s.completeErr k).fsm = .idle := rfl
@[simp] theorem State.completeErr_tog (s : State) (k : ErrorKind) : (s.completeErr k).tog = s.tog := rfl
@[simp] theorem State.completeErr_sreq (s : State) (k : ErrorKind) : (s.completeErr k).sreq = s.sreq := rfl
@[simp] theorem State.completeErr_devAddr (s : State) (k : ErrorKind) : (s.completeErr k).devAddr = s.devAddr := rfl
@[simp] theorem State.completeErr_wtxCnt (s : State) (k : ErrorKind) : (s.completeErr k).wtxCnt = s.wtxCnt := rfl
@[simp] theorem State.completeErr_wtxTotal (s : State) (k : ErrorKind) : (s.completeErr k).wtxTotal = s.wtxTotal := rfl
@[simp] theorem State.completeErr_wtxM (s : State) (k : ErrorKind) : (s.completeErr k).wtxM = s.wtxM := rfl
@[simp] theorem State.completeErr_cmdOp (s : State) (k : ErrorKind) : (s.completeErr k).cmdOp = s.cmdOp := rfl
@[simp] theorem State.completeErr_cmdN (s : State) (k : ErrorKind) : (s.completeErr k).cmdN = s.cmdN := rfl
@[simp] theorem State.completeErr_pl (s : State) (k : ErrorKind) : (s.completeErr k).pl = s.pl := rfl
@[simp] theorem State.completeErr_rxcap (s : State) (k : ErrorKind) : (s.completeErr k).rxcap = s.rxcap := rfl
@[simp] theorem State.completeErr_rxbuf (s : State) (k : ErrorKind) : (s.completeErr k).rxbuf = s.rxbuf := rfl
@[simp] theorem State.completeErr_txbuf (s : State) (k : ErrorKind) : (s.completeErr k).txbuf = s.txbuf := rfl
@[simp] theorem State.completeErr_crcAcc (s : State) (k : ErrorKind) : (s.completeErr k).crcAcc = s.crcAcc := rfl
@[simp] theorem State.completeErr_done (s : State) (k : ErrorKind) : (s.completeErr k).done = true := rfl
@[simp] theorem State.completeErr_status (s : State) (k : ErrorKind) : (s.completeErr k).status = errorCode k := rfl
@[simp] theorem State.completeErr_errPhase (s : State) (k : ErrorKind) : (s.completeErr k).errPhase = fsmCode s.fsm := rfl
@[simp] theorem State.completeErr_dout (s : State) (k : ErrorKind) : (s.completeErr k).dout = [] := rfl
@[simp] theorem State.completeErr_vout (s : State) (k : ErrorKind) : (s.completeErr k).vout = 0#16 := rfl
@[simp] theorem State.completeErr_din (s : State) (k : ErrorKind) : (s.completeErr k).din = s.din := rfl
@[simp] theorem State.completeErr_refused (s : State) (k : ErrorKind) : (s.completeErr k).refused = s.refused := rfl
@[simp] theorem State.completeErr_hist (s : State) (k : ErrorKind) : (s.completeErr k).hist = s.hist := rfl
@[simp] theorem State.completeErr_pending (s : State) (k : ErrorKind) : (s.completeErr k).pending = s.pending := rfl
@[simp] theorem State.completeErr_cfg (s : State) (k : ErrorKind) : (s.completeErr k).cfg = s.cfg := rfl
@[simp] theorem State.completeErr_inbox (s : State) (k : ErrorKind) : (s.completeErr k).inbox = s.inbox := rfl
@[simp] theorem State.completeErr_answer (s : State) (k : ErrorKind) : (s.completeErr k).answer = s.answer := rfl
@[simp] theorem State.completeErr_readout (s : State) (k : ErrorKind) : (s.completeErr k).readout = s.readout := rfl
@[simp] theorem State.completeErr_refusals (s : State) (k : ErrorKind) : (s.completeErr k).refusals = s.refusals := rfl

/-! ### `State.sessionReset` -/

@[simp] theorem State.sessionReset_fsm (s : State) : (s.sessionReset).fsm = s.fsm := rfl
@[simp] theorem State.sessionReset_tog (s : State) : (s.sessionReset).tog = false := rfl
@[simp] theorem State.sessionReset_sreq (s : State) : (s.sessionReset).sreq = true := rfl
@[simp] theorem State.sessionReset_devAddr (s : State) : (s.sessionReset).devAddr = s.devAddr := rfl
@[simp] theorem State.sessionReset_wtxCnt (s : State) : (s.sessionReset).wtxCnt = s.wtxCnt := rfl
@[simp] theorem State.sessionReset_wtxTotal (s : State) : (s.sessionReset).wtxTotal = s.wtxTotal := rfl
@[simp] theorem State.sessionReset_wtxM (s : State) : (s.sessionReset).wtxM = s.wtxM := rfl
@[simp] theorem State.sessionReset_cmdOp (s : State) : (s.sessionReset).cmdOp = s.cmdOp := rfl
@[simp] theorem State.sessionReset_cmdN (s : State) : (s.sessionReset).cmdN = s.cmdN := rfl
@[simp] theorem State.sessionReset_pl (s : State) : (s.sessionReset).pl = s.pl := rfl
@[simp] theorem State.sessionReset_rxcap (s : State) : (s.sessionReset).rxcap = s.rxcap := rfl
@[simp] theorem State.sessionReset_rxbuf (s : State) : (s.sessionReset).rxbuf = s.rxbuf := rfl
@[simp] theorem State.sessionReset_txbuf (s : State) : (s.sessionReset).txbuf = s.txbuf := rfl
@[simp] theorem State.sessionReset_crcAcc (s : State) : (s.sessionReset).crcAcc = s.crcAcc := rfl
@[simp] theorem State.sessionReset_done (s : State) : (s.sessionReset).done = s.done := rfl
@[simp] theorem State.sessionReset_status (s : State) : (s.sessionReset).status = s.status := rfl
@[simp] theorem State.sessionReset_errPhase (s : State) : (s.sessionReset).errPhase = s.errPhase := rfl
@[simp] theorem State.sessionReset_dout (s : State) : (s.sessionReset).dout = s.dout := rfl
@[simp] theorem State.sessionReset_vout (s : State) : (s.sessionReset).vout = s.vout := rfl
@[simp] theorem State.sessionReset_din (s : State) : (s.sessionReset).din = s.din := rfl
@[simp] theorem State.sessionReset_refused (s : State) : (s.sessionReset).refused = s.refused := rfl
@[simp] theorem State.sessionReset_hist (s : State) : (s.sessionReset).hist = s.hist := rfl
@[simp] theorem State.sessionReset_pending (s : State) : (s.sessionReset).pending = s.pending := rfl
@[simp] theorem State.sessionReset_cfg (s : State) : (s.sessionReset).cfg = s.cfg := rfl
@[simp] theorem State.sessionReset_inbox (s : State) : (s.sessionReset).inbox = s.inbox := rfl
@[simp] theorem State.sessionReset_answer (s : State) : (s.sessionReset).answer = s.answer := rfl
@[simp] theorem State.sessionReset_readout (s : State) : (s.sessionReset).readout = s.readout := rfl
@[simp] theorem State.sessionReset_refusals (s : State) : (s.sessionReset).refusals = s.refusals := rfl

/-! ### `State.issue` -/

@[simp] theorem State.issue_fsm (s : State) (q : Request) : (s.issue q).fsm = s.fsm := rfl
@[simp] theorem State.issue_tog (s : State) (q : Request) : (s.issue q).tog = s.tog := rfl
@[simp] theorem State.issue_sreq (s : State) (q : Request) : (s.issue q).sreq = s.sreq := rfl
@[simp] theorem State.issue_devAddr (s : State) (q : Request) : (s.issue q).devAddr = s.devAddr := rfl
@[simp] theorem State.issue_wtxCnt (s : State) (q : Request) : (s.issue q).wtxCnt = s.wtxCnt := rfl
@[simp] theorem State.issue_wtxTotal (s : State) (q : Request) : (s.issue q).wtxTotal = s.wtxTotal := rfl
@[simp] theorem State.issue_wtxM (s : State) (q : Request) : (s.issue q).wtxM = s.wtxM := rfl
@[simp] theorem State.issue_cmdOp (s : State) (q : Request) : (s.issue q).cmdOp = s.cmdOp := rfl
@[simp] theorem State.issue_cmdN (s : State) (q : Request) : (s.issue q).cmdN = s.cmdN := rfl
@[simp] theorem State.issue_pl (s : State) (q : Request) : (s.issue q).pl = s.pl := rfl
@[simp] theorem State.issue_rxcap (s : State) (q : Request) : (s.issue q).rxcap = s.rxcap := rfl
@[simp] theorem State.issue_rxbuf (s : State) (q : Request) : (s.issue q).rxbuf = s.rxbuf := rfl
@[simp] theorem State.issue_txbuf (s : State) (q : Request) : (s.issue q).txbuf = s.txbuf := rfl
@[simp] theorem State.issue_crcAcc (s : State) (q : Request) : (s.issue q).crcAcc = s.crcAcc := rfl
@[simp] theorem State.issue_done (s : State) (q : Request) : (s.issue q).done = s.done := rfl
@[simp] theorem State.issue_status (s : State) (q : Request) : (s.issue q).status = s.status := rfl
@[simp] theorem State.issue_errPhase (s : State) (q : Request) : (s.issue q).errPhase = s.errPhase := rfl
@[simp] theorem State.issue_dout (s : State) (q : Request) : (s.issue q).dout = s.dout := rfl
@[simp] theorem State.issue_vout (s : State) (q : Request) : (s.issue q).vout = s.vout := rfl
@[simp] theorem State.issue_din (s : State) (q : Request) : (s.issue q).din = s.din := rfl
@[simp] theorem State.issue_refused (s : State) (q : Request) : (s.issue q).refused = s.refused := rfl
@[simp] theorem State.issue_hist (s : State) (q : Request) : (s.issue q).hist = s.hist := rfl
@[simp] theorem State.issue_pending (s : State) (q : Request) : (s.issue q).pending = some q := rfl
@[simp] theorem State.issue_cfg (s : State) (q : Request) : (s.issue q).cfg = s.cfg := rfl
@[simp] theorem State.issue_inbox (s : State) (q : Request) : (s.issue q).inbox = s.inbox := rfl
@[simp] theorem State.issue_answer (s : State) (q : Request) : (s.issue q).answer = none := rfl
@[simp] theorem State.issue_readout (s : State) (q : Request) : (s.issue q).readout = s.readout := rfl
@[simp] theorem State.issue_refusals (s : State) (q : Request) : (s.issue q).refusals = s.refusals := rfl

/-! ### `State.record` -/

@[simp] theorem State.record_fsm (s : State) (q : Request) (a : Answer) : (s.record q a).fsm = s.fsm := rfl
@[simp] theorem State.record_tog (s : State) (q : Request) (a : Answer) : (s.record q a).tog = s.tog := rfl
@[simp] theorem State.record_sreq (s : State) (q : Request) (a : Answer) : (s.record q a).sreq = s.sreq := rfl
@[simp] theorem State.record_devAddr (s : State) (q : Request) (a : Answer) : (s.record q a).devAddr = s.devAddr := rfl
@[simp] theorem State.record_wtxCnt (s : State) (q : Request) (a : Answer) : (s.record q a).wtxCnt = s.wtxCnt := rfl
@[simp] theorem State.record_wtxTotal (s : State) (q : Request) (a : Answer) : (s.record q a).wtxTotal = s.wtxTotal := rfl
@[simp] theorem State.record_wtxM (s : State) (q : Request) (a : Answer) : (s.record q a).wtxM = s.wtxM := rfl
@[simp] theorem State.record_cmdOp (s : State) (q : Request) (a : Answer) : (s.record q a).cmdOp = s.cmdOp := rfl
@[simp] theorem State.record_cmdN (s : State) (q : Request) (a : Answer) : (s.record q a).cmdN = s.cmdN := rfl
@[simp] theorem State.record_pl (s : State) (q : Request) (a : Answer) : (s.record q a).pl = s.pl := rfl
@[simp] theorem State.record_rxcap (s : State) (q : Request) (a : Answer) : (s.record q a).rxcap = s.rxcap := rfl
@[simp] theorem State.record_rxbuf (s : State) (q : Request) (a : Answer) : (s.record q a).rxbuf = s.rxbuf := rfl
@[simp] theorem State.record_txbuf (s : State) (q : Request) (a : Answer) : (s.record q a).txbuf = s.txbuf := rfl
@[simp] theorem State.record_crcAcc (s : State) (q : Request) (a : Answer) : (s.record q a).crcAcc = s.crcAcc := rfl
@[simp] theorem State.record_done (s : State) (q : Request) (a : Answer) : (s.record q a).done = s.done := rfl
@[simp] theorem State.record_status (s : State) (q : Request) (a : Answer) : (s.record q a).status = s.status := rfl
@[simp] theorem State.record_errPhase (s : State) (q : Request) (a : Answer) : (s.record q a).errPhase = s.errPhase := rfl
@[simp] theorem State.record_dout (s : State) (q : Request) (a : Answer) : (s.record q a).dout = s.dout := rfl
@[simp] theorem State.record_vout (s : State) (q : Request) (a : Answer) : (s.record q a).vout = s.vout := rfl
@[simp] theorem State.record_din (s : State) (q : Request) (a : Answer) : (s.record q a).din = s.din := rfl
@[simp] theorem State.record_refused (s : State) (q : Request) (a : Answer) : (s.record q a).refused = s.refused := rfl
@[simp] theorem State.record_hist (s : State) (q : Request) (a : Answer) : (s.record q a).hist = s.hist ++ [⟨q, some a⟩] := rfl
@[simp] theorem State.record_pending (s : State) (q : Request) (a : Answer) : (s.record q a).pending = none := rfl
@[simp] theorem State.record_cfg (s : State) (q : Request) (a : Answer) : (s.record q a).cfg = s.cfg := rfl
@[simp] theorem State.record_inbox (s : State) (q : Request) (a : Answer) : (s.record q a).inbox = s.inbox := rfl
@[simp] theorem State.record_answer (s : State) (q : Request) (a : Answer) : (s.record q a).answer = none := rfl
@[simp] theorem State.record_readout (s : State) (q : Request) (a : Answer) : (s.record q a).readout = s.readout := rfl
@[simp] theorem State.record_refusals (s : State) (q : Request) (a : Answer) : (s.record q a).refusals = s.refusals := rfl

/-! ### `State.withCrc` -/

@[simp] theorem State.withCrc_fsm (s : State) (b : Bytes) (seed : Word16) : (s.withCrc b seed).fsm = s.fsm := rfl
@[simp] theorem State.withCrc_tog (s : State) (b : Bytes) (seed : Word16) : (s.withCrc b seed).tog = s.tog := rfl
@[simp] theorem State.withCrc_sreq (s : State) (b : Bytes) (seed : Word16) : (s.withCrc b seed).sreq = s.sreq := rfl
@[simp] theorem State.withCrc_devAddr (s : State) (b : Bytes) (seed : Word16) : (s.withCrc b seed).devAddr = s.devAddr := rfl
@[simp] theorem State.withCrc_wtxCnt (s : State) (b : Bytes) (seed : Word16) : (s.withCrc b seed).wtxCnt = s.wtxCnt := rfl
@[simp] theorem State.withCrc_wtxTotal (s : State) (b : Bytes) (seed : Word16) : (s.withCrc b seed).wtxTotal = s.wtxTotal := rfl
@[simp] theorem State.withCrc_wtxM (s : State) (b : Bytes) (seed : Word16) : (s.withCrc b seed).wtxM = s.wtxM := rfl
@[simp] theorem State.withCrc_cmdOp (s : State) (b : Bytes) (seed : Word16) : (s.withCrc b seed).cmdOp = s.cmdOp := rfl
@[simp] theorem State.withCrc_cmdN (s : State) (b : Bytes) (seed : Word16) : (s.withCrc b seed).cmdN = s.cmdN := rfl
@[simp] theorem State.withCrc_pl (s : State) (b : Bytes) (seed : Word16) : (s.withCrc b seed).pl = s.pl := rfl
@[simp] theorem State.withCrc_rxcap (s : State) (b : Bytes) (seed : Word16) : (s.withCrc b seed).rxcap = s.rxcap := rfl
@[simp] theorem State.withCrc_rxbuf (s : State) (b : Bytes) (seed : Word16) : (s.withCrc b seed).rxbuf = s.rxbuf := rfl
@[simp] theorem State.withCrc_txbuf (s : State) (b : Bytes) (seed : Word16) : (s.withCrc b seed).txbuf = s.txbuf := rfl
@[simp] theorem State.withCrc_crcAcc (s : State) (b : Bytes) (seed : Word16) : (s.withCrc b seed).crcAcc = crcReg s.cfg b seed := rfl
@[simp] theorem State.withCrc_done (s : State) (b : Bytes) (seed : Word16) : (s.withCrc b seed).done = s.done := rfl
@[simp] theorem State.withCrc_status (s : State) (b : Bytes) (seed : Word16) : (s.withCrc b seed).status = s.status := rfl
@[simp] theorem State.withCrc_errPhase (s : State) (b : Bytes) (seed : Word16) : (s.withCrc b seed).errPhase = s.errPhase := rfl
@[simp] theorem State.withCrc_dout (s : State) (b : Bytes) (seed : Word16) : (s.withCrc b seed).dout = s.dout := rfl
@[simp] theorem State.withCrc_vout (s : State) (b : Bytes) (seed : Word16) : (s.withCrc b seed).vout = s.vout := rfl
@[simp] theorem State.withCrc_din (s : State) (b : Bytes) (seed : Word16) : (s.withCrc b seed).din = s.din := rfl
@[simp] theorem State.withCrc_refused (s : State) (b : Bytes) (seed : Word16) : (s.withCrc b seed).refused = s.refused := rfl
@[simp] theorem State.withCrc_hist (s : State) (b : Bytes) (seed : Word16) : (s.withCrc b seed).hist = s.hist := rfl
@[simp] theorem State.withCrc_pending (s : State) (b : Bytes) (seed : Word16) : (s.withCrc b seed).pending = s.pending := rfl
@[simp] theorem State.withCrc_cfg (s : State) (b : Bytes) (seed : Word16) : (s.withCrc b seed).cfg = s.cfg := rfl
@[simp] theorem State.withCrc_inbox (s : State) (b : Bytes) (seed : Word16) : (s.withCrc b seed).inbox = s.inbox := rfl
@[simp] theorem State.withCrc_answer (s : State) (b : Bytes) (seed : Word16) : (s.withCrc b seed).answer = s.answer := rfl
@[simp] theorem State.withCrc_readout (s : State) (b : Bytes) (seed : Word16) : (s.withCrc b seed).readout = s.readout := rfl
@[simp] theorem State.withCrc_refusals (s : State) (b : Bytes) (seed : Word16) : (s.withCrc b seed).refusals = s.refusals := rfl

/-! ### `State.prepend` -/

@[simp] theorem State.prepend_fsm (s : State) (a : Input) : (s.prepend a).fsm = s.fsm := rfl
@[simp] theorem State.prepend_tog (s : State) (a : Input) : (s.prepend a).tog = s.tog := rfl
@[simp] theorem State.prepend_sreq (s : State) (a : Input) : (s.prepend a).sreq = s.sreq := rfl
@[simp] theorem State.prepend_devAddr (s : State) (a : Input) : (s.prepend a).devAddr = s.devAddr := rfl
@[simp] theorem State.prepend_wtxCnt (s : State) (a : Input) : (s.prepend a).wtxCnt = s.wtxCnt := rfl
@[simp] theorem State.prepend_wtxTotal (s : State) (a : Input) : (s.prepend a).wtxTotal = s.wtxTotal := rfl
@[simp] theorem State.prepend_wtxM (s : State) (a : Input) : (s.prepend a).wtxM = s.wtxM := rfl
@[simp] theorem State.prepend_cmdOp (s : State) (a : Input) : (s.prepend a).cmdOp = s.cmdOp := rfl
@[simp] theorem State.prepend_cmdN (s : State) (a : Input) : (s.prepend a).cmdN = s.cmdN := rfl
@[simp] theorem State.prepend_pl (s : State) (a : Input) : (s.prepend a).pl = s.pl := rfl
@[simp] theorem State.prepend_rxcap (s : State) (a : Input) : (s.prepend a).rxcap = s.rxcap := rfl
@[simp] theorem State.prepend_rxbuf (s : State) (a : Input) : (s.prepend a).rxbuf = s.rxbuf := rfl
@[simp] theorem State.prepend_txbuf (s : State) (a : Input) : (s.prepend a).txbuf = s.txbuf := rfl
@[simp] theorem State.prepend_crcAcc (s : State) (a : Input) : (s.prepend a).crcAcc = s.crcAcc := rfl
@[simp] theorem State.prepend_done (s : State) (a : Input) : (s.prepend a).done = s.done := rfl
@[simp] theorem State.prepend_status (s : State) (a : Input) : (s.prepend a).status = s.status := rfl
@[simp] theorem State.prepend_errPhase (s : State) (a : Input) : (s.prepend a).errPhase = s.errPhase := rfl
@[simp] theorem State.prepend_dout (s : State) (a : Input) : (s.prepend a).dout = s.dout := rfl
@[simp] theorem State.prepend_vout (s : State) (a : Input) : (s.prepend a).vout = s.vout := rfl
@[simp] theorem State.prepend_din (s : State) (a : Input) : (s.prepend a).din = s.din := rfl
@[simp] theorem State.prepend_refused (s : State) (a : Input) : (s.prepend a).refused = s.refused := rfl
@[simp] theorem State.prepend_hist (s : State) (a : Input) : (s.prepend a).hist = s.hist := rfl
@[simp] theorem State.prepend_pending (s : State) (a : Input) : (s.prepend a).pending = s.pending := rfl
@[simp] theorem State.prepend_cfg (s : State) (a : Input) : (s.prepend a).cfg = s.cfg := rfl
@[simp] theorem State.prepend_inbox (s : State) (a : Input) : (s.prepend a).inbox = a :: s.inbox := rfl
@[simp] theorem State.prepend_answer (s : State) (a : Input) : (s.prepend a).answer = s.answer := rfl
@[simp] theorem State.prepend_readout (s : State) (a : Input) : (s.prepend a).readout = s.readout := rfl
@[simp] theorem State.prepend_refusals (s : State) (a : Input) : (s.prepend a).refusals = s.refusals := rfl

/-! ### `passTurn` -/

@[simp] theorem passTurn_fsm (s : State) : (passTurn s).fsm = s.fsm := rfl
@[simp] theorem passTurn_tog (s : State) : (passTurn s).tog = s.tog := rfl
@[simp] theorem passTurn_sreq (s : State) : (passTurn s).sreq = s.sreq := rfl
@[simp] theorem passTurn_devAddr (s : State) : (passTurn s).devAddr = s.devAddr := rfl
@[simp] theorem passTurn_wtxCnt (s : State) : (passTurn s).wtxCnt = s.wtxCnt := rfl
@[simp] theorem passTurn_wtxTotal (s : State) : (passTurn s).wtxTotal = s.wtxTotal := rfl
@[simp] theorem passTurn_wtxM (s : State) : (passTurn s).wtxM = s.wtxM := rfl
@[simp] theorem passTurn_cmdOp (s : State) : (passTurn s).cmdOp = s.cmdOp := rfl
@[simp] theorem passTurn_cmdN (s : State) : (passTurn s).cmdN = s.cmdN := rfl
@[simp] theorem passTurn_pl (s : State) : (passTurn s).pl = s.pl := rfl
@[simp] theorem passTurn_rxcap (s : State) : (passTurn s).rxcap = s.rxcap := rfl
@[simp] theorem passTurn_rxbuf (s : State) : (passTurn s).rxbuf = s.rxbuf := rfl
@[simp] theorem passTurn_txbuf (s : State) : (passTurn s).txbuf = s.txbuf := rfl
@[simp] theorem passTurn_crcAcc (s : State) : (passTurn s).crcAcc = s.crcAcc := rfl
@[simp] theorem passTurn_done (s : State) : (passTurn s).done = s.done := rfl
@[simp] theorem passTurn_status (s : State) : (passTurn s).status = s.status := rfl
@[simp] theorem passTurn_errPhase (s : State) : (passTurn s).errPhase = s.errPhase := rfl
@[simp] theorem passTurn_dout (s : State) : (passTurn s).dout = s.dout := rfl
@[simp] theorem passTurn_vout (s : State) : (passTurn s).vout = s.vout := rfl
@[simp] theorem passTurn_din (s : State) : (passTurn s).din = s.din := rfl
@[simp] theorem passTurn_refused (s : State) : (passTurn s).refused = s.refused := rfl
@[simp] theorem passTurn_hist (s : State) : (passTurn s).hist = s.hist := rfl
@[simp] theorem passTurn_pending (s : State) : (passTurn s).pending = s.pending := rfl
@[simp] theorem passTurn_cfg (s : State) : (passTurn s).cfg = s.cfg := rfl
@[simp] theorem passTurn_inbox (s : State) : (passTurn s).inbox = s.inbox.tail := rfl
@[simp] theorem passTurn_answer (s : State) : (passTurn s).answer = s.answer := rfl
@[simp] theorem passTurn_readout (s : State) : (passTurn s).readout = s.readout := rfl
@[simp] theorem passTurn_refusals (s : State) : (passTurn s).refusals = s.refusals := rfl

/-! ### `serve` -/

@[simp] theorem serve_fsm (s : State) : (serve s).fsm = s.fsm := rfl
@[simp] theorem serve_tog (s : State) : (serve s).tog = s.tog := rfl
@[simp] theorem serve_sreq (s : State) : (serve s).sreq = s.sreq := rfl
@[simp] theorem serve_devAddr (s : State) : (serve s).devAddr = s.devAddr := rfl
@[simp] theorem serve_wtxCnt (s : State) : (serve s).wtxCnt = s.wtxCnt := rfl
@[simp] theorem serve_wtxTotal (s : State) : (serve s).wtxTotal = s.wtxTotal := rfl
@[simp] theorem serve_wtxM (s : State) : (serve s).wtxM = s.wtxM := rfl
@[simp] theorem serve_cmdOp (s : State) : (serve s).cmdOp = s.cmdOp := rfl
@[simp] theorem serve_cmdN (s : State) : (serve s).cmdN = s.cmdN := rfl
@[simp] theorem serve_pl (s : State) : (serve s).pl = s.pl := rfl
@[simp] theorem serve_rxcap (s : State) : (serve s).rxcap = s.rxcap := rfl
@[simp] theorem serve_rxbuf (s : State) : (serve s).rxbuf = s.rxbuf := rfl
@[simp] theorem serve_txbuf (s : State) : (serve s).txbuf = s.txbuf := rfl
@[simp] theorem serve_crcAcc (s : State) : (serve s).crcAcc = s.crcAcc := rfl
@[simp] theorem serve_done (s : State) : (serve s).done = s.done := rfl
@[simp] theorem serve_status (s : State) : (serve s).status = s.status := rfl
@[simp] theorem serve_errPhase (s : State) : (serve s).errPhase = s.errPhase := rfl
@[simp] theorem serve_dout (s : State) : (serve s).dout = s.dout := rfl
@[simp] theorem serve_vout (s : State) : (serve s).vout = s.vout := rfl
@[simp] theorem serve_din (s : State) : (serve s).din = s.din := rfl
@[simp] theorem serve_refused (s : State) : (serve s).refused = s.refused := rfl
@[simp] theorem serve_hist (s : State) : (serve s).hist = s.hist := rfl
@[simp] theorem serve_pending (s : State) : (serve s).pending = s.pending := rfl
@[simp] theorem serve_cfg (s : State) : (serve s).cfg = s.cfg := rfl
@[simp] theorem serve_inbox (s : State) : (serve s).inbox = s.inbox.tail := rfl
@[simp] theorem serve_readout (s : State) : (serve s).readout = s.readout := rfl
@[simp] theorem serve_refusals (s : State) : (serve s).refusals = s.refusals := rfl

/-! ### `State.crcOfCheck`: only the accumulator changes -/

@[simp] theorem State.crcOfCheck_fsm (s : State) (f : Bytes) : (s.crcOfCheck f).fsm = s.fsm := by
  unfold State.crcOfCheck; split <;> rfl
@[simp] theorem State.crcOfCheck_tog (s : State) (f : Bytes) : (s.crcOfCheck f).tog = s.tog := by
  unfold State.crcOfCheck; split <;> rfl
@[simp] theorem State.crcOfCheck_sreq (s : State) (f : Bytes) : (s.crcOfCheck f).sreq = s.sreq := by
  unfold State.crcOfCheck; split <;> rfl
@[simp] theorem State.crcOfCheck_devAddr (s : State) (f : Bytes) : (s.crcOfCheck f).devAddr = s.devAddr := by
  unfold State.crcOfCheck; split <;> rfl
@[simp] theorem State.crcOfCheck_wtxCnt (s : State) (f : Bytes) : (s.crcOfCheck f).wtxCnt = s.wtxCnt := by
  unfold State.crcOfCheck; split <;> rfl
@[simp] theorem State.crcOfCheck_wtxTotal (s : State) (f : Bytes) : (s.crcOfCheck f).wtxTotal = s.wtxTotal := by
  unfold State.crcOfCheck; split <;> rfl
@[simp] theorem State.crcOfCheck_wtxM (s : State) (f : Bytes) : (s.crcOfCheck f).wtxM = s.wtxM := by
  unfold State.crcOfCheck; split <;> rfl
@[simp] theorem State.crcOfCheck_cmdOp (s : State) (f : Bytes) : (s.crcOfCheck f).cmdOp = s.cmdOp := by
  unfold State.crcOfCheck; split <;> rfl
@[simp] theorem State.crcOfCheck_cmdN (s : State) (f : Bytes) : (s.crcOfCheck f).cmdN = s.cmdN := by
  unfold State.crcOfCheck; split <;> rfl
@[simp] theorem State.crcOfCheck_pl (s : State) (f : Bytes) : (s.crcOfCheck f).pl = s.pl := by
  unfold State.crcOfCheck; split <;> rfl
@[simp] theorem State.crcOfCheck_rxcap (s : State) (f : Bytes) : (s.crcOfCheck f).rxcap = s.rxcap := by
  unfold State.crcOfCheck; split <;> rfl
@[simp] theorem State.crcOfCheck_rxbuf (s : State) (f : Bytes) : (s.crcOfCheck f).rxbuf = s.rxbuf := by
  unfold State.crcOfCheck; split <;> rfl
@[simp] theorem State.crcOfCheck_txbuf (s : State) (f : Bytes) : (s.crcOfCheck f).txbuf = s.txbuf := by
  unfold State.crcOfCheck; split <;> rfl
@[simp] theorem State.crcOfCheck_done (s : State) (f : Bytes) : (s.crcOfCheck f).done = s.done := by
  unfold State.crcOfCheck; split <;> rfl
@[simp] theorem State.crcOfCheck_status (s : State) (f : Bytes) : (s.crcOfCheck f).status = s.status := by
  unfold State.crcOfCheck; split <;> rfl
@[simp] theorem State.crcOfCheck_errPhase (s : State) (f : Bytes) : (s.crcOfCheck f).errPhase = s.errPhase := by
  unfold State.crcOfCheck; split <;> rfl
@[simp] theorem State.crcOfCheck_dout (s : State) (f : Bytes) : (s.crcOfCheck f).dout = s.dout := by
  unfold State.crcOfCheck; split <;> rfl
@[simp] theorem State.crcOfCheck_vout (s : State) (f : Bytes) : (s.crcOfCheck f).vout = s.vout := by
  unfold State.crcOfCheck; split <;> rfl
@[simp] theorem State.crcOfCheck_din (s : State) (f : Bytes) : (s.crcOfCheck f).din = s.din := by
  unfold State.crcOfCheck; split <;> rfl
@[simp] theorem State.crcOfCheck_refused (s : State) (f : Bytes) : (s.crcOfCheck f).refused = s.refused := by
  unfold State.crcOfCheck; split <;> rfl
@[simp] theorem State.crcOfCheck_hist (s : State) (f : Bytes) : (s.crcOfCheck f).hist = s.hist := by
  unfold State.crcOfCheck; split <;> rfl
@[simp] theorem State.crcOfCheck_pending (s : State) (f : Bytes) : (s.crcOfCheck f).pending = s.pending := by
  unfold State.crcOfCheck; split <;> rfl
@[simp] theorem State.crcOfCheck_cfg (s : State) (f : Bytes) : (s.crcOfCheck f).cfg = s.cfg := by
  unfold State.crcOfCheck; split <;> rfl
@[simp] theorem State.crcOfCheck_inbox (s : State) (f : Bytes) : (s.crcOfCheck f).inbox = s.inbox := by
  unfold State.crcOfCheck; split <;> rfl
@[simp] theorem State.crcOfCheck_answer (s : State) (f : Bytes) : (s.crcOfCheck f).answer = s.answer := by
  unfold State.crcOfCheck; split <;> rfl
@[simp] theorem State.crcOfCheck_readout (s : State) (f : Bytes) : (s.crcOfCheck f).readout = s.readout := by
  unfold State.crcOfCheck; split <;> rfl
@[simp] theorem State.crcOfCheck_refusals (s : State) (f : Bytes) : (s.crcOfCheck f).refusals = s.refusals := by
  unfold State.crcOfCheck; split <;> rfl

/-! ### `State.crcOfAccept`: only the accumulator changes -/

@[simp] theorem State.crcOfAccept_fsm (s : State) (f : Bytes) : (s.crcOfAccept f).fsm = s.fsm := by
  unfold State.crcOfAccept; split <;> simp
@[simp] theorem State.crcOfAccept_tog (s : State) (f : Bytes) : (s.crcOfAccept f).tog = s.tog := by
  unfold State.crcOfAccept; split <;> simp
@[simp] theorem State.crcOfAccept_sreq (s : State) (f : Bytes) : (s.crcOfAccept f).sreq = s.sreq := by
  unfold State.crcOfAccept; split <;> simp
@[simp] theorem State.crcOfAccept_devAddr (s : State) (f : Bytes) : (s.crcOfAccept f).devAddr = s.devAddr := by
  unfold State.crcOfAccept; split <;> simp
@[simp] theorem State.crcOfAccept_wtxCnt (s : State) (f : Bytes) : (s.crcOfAccept f).wtxCnt = s.wtxCnt := by
  unfold State.crcOfAccept; split <;> simp
@[simp] theorem State.crcOfAccept_wtxTotal (s : State) (f : Bytes) : (s.crcOfAccept f).wtxTotal = s.wtxTotal := by
  unfold State.crcOfAccept; split <;> simp
@[simp] theorem State.crcOfAccept_wtxM (s : State) (f : Bytes) : (s.crcOfAccept f).wtxM = s.wtxM := by
  unfold State.crcOfAccept; split <;> simp
@[simp] theorem State.crcOfAccept_cmdOp (s : State) (f : Bytes) : (s.crcOfAccept f).cmdOp = s.cmdOp := by
  unfold State.crcOfAccept; split <;> simp
@[simp] theorem State.crcOfAccept_cmdN (s : State) (f : Bytes) : (s.crcOfAccept f).cmdN = s.cmdN := by
  unfold State.crcOfAccept; split <;> simp
@[simp] theorem State.crcOfAccept_pl (s : State) (f : Bytes) : (s.crcOfAccept f).pl = s.pl := by
  unfold State.crcOfAccept; split <;> simp
@[simp] theorem State.crcOfAccept_rxcap (s : State) (f : Bytes) : (s.crcOfAccept f).rxcap = s.rxcap := by
  unfold State.crcOfAccept; split <;> simp
@[simp] theorem State.crcOfAccept_rxbuf (s : State) (f : Bytes) : (s.crcOfAccept f).rxbuf = s.rxbuf := by
  unfold State.crcOfAccept; split <;> simp
@[simp] theorem State.crcOfAccept_txbuf (s : State) (f : Bytes) : (s.crcOfAccept f).txbuf = s.txbuf := by
  unfold State.crcOfAccept; split <;> simp
@[simp] theorem State.crcOfAccept_done (s : State) (f : Bytes) : (s.crcOfAccept f).done = s.done := by
  unfold State.crcOfAccept; split <;> simp
@[simp] theorem State.crcOfAccept_status (s : State) (f : Bytes) : (s.crcOfAccept f).status = s.status := by
  unfold State.crcOfAccept; split <;> simp
@[simp] theorem State.crcOfAccept_errPhase (s : State) (f : Bytes) : (s.crcOfAccept f).errPhase = s.errPhase := by
  unfold State.crcOfAccept; split <;> simp
@[simp] theorem State.crcOfAccept_dout (s : State) (f : Bytes) : (s.crcOfAccept f).dout = s.dout := by
  unfold State.crcOfAccept; split <;> simp
@[simp] theorem State.crcOfAccept_vout (s : State) (f : Bytes) : (s.crcOfAccept f).vout = s.vout := by
  unfold State.crcOfAccept; split <;> simp
@[simp] theorem State.crcOfAccept_din (s : State) (f : Bytes) : (s.crcOfAccept f).din = s.din := by
  unfold State.crcOfAccept; split <;> simp
@[simp] theorem State.crcOfAccept_refused (s : State) (f : Bytes) : (s.crcOfAccept f).refused = s.refused := by
  unfold State.crcOfAccept; split <;> simp
@[simp] theorem State.crcOfAccept_hist (s : State) (f : Bytes) : (s.crcOfAccept f).hist = s.hist := by
  unfold State.crcOfAccept; split <;> simp
@[simp] theorem State.crcOfAccept_pending (s : State) (f : Bytes) : (s.crcOfAccept f).pending = s.pending := by
  unfold State.crcOfAccept; split <;> simp
@[simp] theorem State.crcOfAccept_cfg (s : State) (f : Bytes) : (s.crcOfAccept f).cfg = s.cfg := by
  unfold State.crcOfAccept; split <;> simp
@[simp] theorem State.crcOfAccept_inbox (s : State) (f : Bytes) : (s.crcOfAccept f).inbox = s.inbox := by
  unfold State.crcOfAccept; split <;> simp
@[simp] theorem State.crcOfAccept_answer (s : State) (f : Bytes) : (s.crcOfAccept f).answer = s.answer := by
  unfold State.crcOfAccept; split <;> simp
@[simp] theorem State.crcOfAccept_readout (s : State) (f : Bytes) : (s.crcOfAccept f).readout = s.readout := by
  unfold State.crcOfAccept; split <;> simp
@[simp] theorem State.crcOfAccept_refusals (s : State) (f : Bytes) : (s.crcOfAccept f).refusals = s.refusals := by
  unfold State.crcOfAccept; split <;> simp

/-! ### `State.resetInput` (R230) -/

@[simp] theorem State.resetInput_fsm (s : State) : s.resetInput.fsm = .idle := rfl
@[simp] theorem State.resetInput_tog (s : State) : s.resetInput.tog = false := rfl
@[simp] theorem State.resetInput_sreq (s : State) : s.resetInput.sreq = true := rfl
@[simp] theorem State.resetInput_devAddr (s : State) : s.resetInput.devAddr = s.cfg.devAddr := rfl
@[simp] theorem State.resetInput_wtxCnt (s : State) : s.resetInput.wtxCnt = 0 := rfl
@[simp] theorem State.resetInput_wtxTotal (s : State) : s.resetInput.wtxTotal = 0 := rfl
@[simp] theorem State.resetInput_wtxM (s : State) : s.resetInput.wtxM = 0#8 := rfl
@[simp] theorem State.resetInput_cmdOp (s : State) : s.resetInput.cmdOp = 0#4 := rfl
@[simp] theorem State.resetInput_cmdN (s : State) : s.resetInput.cmdN = 0#16 := rfl
@[simp] theorem State.resetInput_pl (s : State) : s.resetInput.pl = [] := rfl
@[simp] theorem State.resetInput_rxcap (s : State) : s.resetInput.rxcap = 0 := rfl
@[simp] theorem State.resetInput_rxbuf (s : State) : s.resetInput.rxbuf = [] := rfl
@[simp] theorem State.resetInput_txbuf (s : State) : s.resetInput.txbuf = [] := rfl
@[simp] theorem State.resetInput_crcAcc (s : State) : s.resetInput.crcAcc = 0x6363#16 := rfl
@[simp] theorem State.resetInput_done (s : State) : s.resetInput.done = false := rfl
@[simp] theorem State.resetInput_status (s : State) : s.resetInput.status = 0#3 := rfl
@[simp] theorem State.resetInput_errPhase (s : State) : s.resetInput.errPhase = 0#3 := rfl
@[simp] theorem State.resetInput_dout (s : State) : s.resetInput.dout = [] := rfl
@[simp] theorem State.resetInput_vout (s : State) : s.resetInput.vout = 0#16 := rfl
@[simp] theorem State.resetInput_din (s : State) : s.resetInput.din = [] := rfl
@[simp] theorem State.resetInput_refused (s : State) : s.resetInput.refused = s.refused := rfl
@[simp] theorem State.resetInput_pending (s : State) : s.resetInput.pending = none := rfl
@[simp] theorem State.resetInput_cfg (s : State) : s.resetInput.cfg = s.cfg := rfl
@[simp] theorem State.resetInput_inbox (s : State) : s.resetInput.inbox = s.inbox := rfl
@[simp] theorem State.resetInput_answer (s : State) : s.resetInput.answer = none := rfl
@[simp] theorem State.resetInput_readout (s : State) : s.resetInput.readout = none := rfl
@[simp] theorem State.resetInput_refusals (s : State) : s.resetInput.refusals = s.refusals := rfl

/-- An outstanding request is left in `hist` without an answer; with none outstanding `hist` is as it was. -/
theorem State.resetInput_hist (s : State) :
    s.resetInput.hist = s.hist ++ (s.pending.map fun q => (⟨q, none⟩ : Event)).toList := rfl

/-! ### The answer that `serve` puts on the port -/

theorem serve_answer_of_answer {s : State} {k : Nat} {a : Answer} {rest : List Input}
    (h : s.inbox = .answer k a :: rest) : (serve s).answer = some a := by
  simp [serve, h]

theorem serve_answer_of_hostWrite {s : State} {reg : Nat} {v : PortValue} {rest : List Input}
    (h : s.inbox = .hostWrite reg v :: rest) : (serve s).answer = none := by
  simp [serve, h]

theorem serve_answer_of_turn {s : State} {rest : List Input} (h : s.inbox = .turn :: rest) :
    (serve s).answer = none := by
  simp [serve, h]

theorem serve_answer_of_nil {s : State} (h : s.inbox = []) : (serve s).answer = none := by
  simp [serve, h]

end Sys2Proof.Machine
end

