-- ==== Sys2Proof/Laws/Ops.lean ====
section
/-!
SUPPORT. For each shared operation, once, everything it can do; and the buffer laws (spec/20_memory.md R51): what a
write puts in place, what it leaves, and that no buffer passes its capacity.
-/

namespace Sys2Proof.Machine

/-! ### Buffers -/

theorem loadBuffer_of_fits {cap : Nat} {f : Bytes} (h : f.length ≤ cap) : loadBuffer cap f = some f := by
  simp [loadBuffer, memWrite, h]

theorem loadBuffer_of_overflow {cap : Nat} {f : Bytes} (h : cap < f.length) : loadBuffer cap f = none := by
  simp [loadBuffer, memWrite]; omega

theorem loadBuffer_eq_some {cap : Nat} {f b : Bytes} : loadBuffer cap f = some b ↔ b = f ∧ f.length ≤ cap := by
  by_cases h : f.length ≤ cap
  · simp [loadBuffer_of_fits h, h, eq_comm]
  · simp [loadBuffer_of_overflow (Nat.lt_of_not_le h), h]

/-- A write keeps a buffer within its capacity. -/
theorem memWrite_length_le {cap i : Nat} {buf s b : Bytes} (hb : buf.length ≤ cap)
    (h : memWrite cap buf i s = some b) : b.length ≤ cap := by
  unfold memWrite at h
  split at h
  · cases h; simp; omega
  · cases h

/-- A write puts its bytes in place. -/
theorem memRead_memWrite {cap i : Nat} {buf s b : Bytes} (h : memWrite cap buf i s = some b) :
    memRead cap b i s.length = some s := by
  unfold memWrite at h
  split at h
  case isFalse => cases h
  case isTrue hi =>
    cases h
    have hl : (buf.take i ++ List.replicate (i - buf.length) 0#8).length = i := by simp; omega
    rw [memRead, if_pos hi, List.append_assoc, List.drop_left' hl, List.take_left' rfl]

/-- A write leaves every byte below it alone, where the buffer had one. -/
theorem memWrite_getElem?_below {cap i j : Nat} {buf s b : Bytes} (h : memWrite cap buf i s = some b) (hj : j < i)
    (hb : j < buf.length) : b[j]? = buf[j]? := by
  unfold memWrite at h
  split at h
  case isFalse => cases h
  case isTrue =>
    cases h
    have hl : j < (buf.take i).length := by simp; omega
    rw [List.append_assoc, List.append_assoc, List.getElem?_append_left hl]
    simp [hj]

/-! ### Waiting for the due state -/

theorem whenDue_of {due : Prop} [Decidable due] {body : Host.Outcome State Fault Refusal} (h : due) :
    whenDue due body = body := by simp [whenDue, h]

theorem whenDue_next {due : Prop} [Decidable due] {body : Host.Outcome State Fault Refusal} {t : State}
    (h : whenDue due body = .next t) : due ∧ body = .next t := by
  unfold whenDue at h
  split at h
  · exact ⟨‹_›, h⟩
  · cases h

/-! ### Command acceptance (R150) -/

/-- An acceptance always answers a next state: the row's rule in `IDLE`, the refusal elsewhere. -/
theorem acceptCommand_next {op : BitVec 4} {rule : State → State} {s t : State} (h : acceptCommand op rule s = .next t) :
    (s.fsm = .idle ∧ t = rule { s with done := false, cmdOp := op }) ∨ (s.fsm ≠ .idle ∧ t = s.refuse .busyCommand) := by
  unfold acceptCommand at h
  by_cases hf : s.fsm = .idle
  · rw [if_neg (by simp [hf])] at h; cases h; exact .inl ⟨hf, rfl⟩
  · rw [if_pos hf] at h; cases h; exact .inr ⟨hf, rfl⟩

theorem acceptCommand_of_idle {op : BitVec 4} {rule : State → State} {s : State} (h : s.fsm = .idle) :
    acceptCommand op rule s = .next (rule { s with done := false, cmdOp := op }) := by
  simp [acceptCommand, h]

theorem acceptCommand_of_busy {op : BitVec 4} {rule : State → State} {s : State} (h : s.fsm ≠ .idle) :
    acceptCommand op rule s = .next (s.refuse .busyCommand) := by
  simp [acceptCommand, h]

/-! ### The write transfer (R55, R155) -/

/-- Everything a write step that answers a next state can have done: its answer was `OK` or `ERR`, or the request was
issued, or the frame passed the capacity of `txbuf` and was refused. -/
theorem sendFrame_next {f : Bytes} {before onError onOk : State → State} {s t : State}
    (h : sendFrame f before onError onOk s = .next t) :
    (f.length ≤ s.cfg.maxFrame ∧ s.answer = some .writeOk ∧
      t = onOk (({ before s with txbuf := f }).record (.write s.devAddr f) .writeOk)) ∨
    (f.length ≤ s.cfg.maxFrame ∧ s.answer = some .error ∧
      t = onError (({ before s with txbuf := f }).record (.write s.devAddr f) .error)) ∨
    (f.length ≤ s.cfg.maxFrame ∧ s.answer = none ∧ s.pending = none ∧ t = s.issue (.write s.devAddr f)) ∨
    (s.cfg.maxFrame < f.length ∧ t = { s with answer := none }.refuse .bufferBounds) := by
  unfold sendFrame at h
  by_cases hl : f.length ≤ s.cfg.maxFrame
  · rw [loadBuffer_of_fits hl] at h
    rcases ha : s.answer with _ | (_ | r | _ | _)
    · by_cases hp : s.pending = none
      · simp [ha, hp] at h; exact .inr (.inr (.inl ⟨hl, rfl, hp, h.symm⟩))
      · simp [ha, hp] at h
    · simp [ha] at h; exact .inl ⟨hl, rfl, h.symm⟩
    · simp [ha] at h
    · simp [ha] at h; exact .inr (.inl ⟨hl, rfl, h.symm⟩)
    · simp [ha] at h
  · have hl' := Nat.lt_of_not_le hl
    rw [loadBuffer_of_overflow hl'] at h
    cases h; exact .inr (.inr (.inr ⟨hl', rfl⟩))

/-! ### The read transfer (R56, R155) -/

/-- A read step answered with bytes always answers a next state: the bytes are in `rxbuf` and handled, or the answer
was too long, or passed the capacity of `rxbuf`, and was refused with the read still standing. -/
theorem receiveFrame_next {n : Nat} {r : Bytes} {handle : State → State} {s t : State}
    (h : receiveFrame n r handle s = .next t) :
    (r.length ≤ n ∧ r.length ≤ s.rxcap ∧
      t = handle (({ s with rxbuf := r }).record (.read s.devAddr n) (.readOk r))) ∨
    (n < r.length ∧ t = (s.issue (.read s.devAddr n)).refuse .transportOverlong) ∨
    (r.length ≤ n ∧ s.rxcap < r.length ∧ t = (s.issue (.read s.devAddr n)).refuse .bufferBounds) := by
  unfold receiveFrame at h
  by_cases hn : n < r.length
  · simp [hn] at h; exact .inr (.inl ⟨hn, h.symm⟩)
  · simp only [hn, if_false] at h
    by_cases hc : r.length ≤ s.rxcap
    · rw [loadBuffer_of_fits hc] at h; cases h; exact .inl ⟨Nat.le_of_not_lt hn, hc, rfl⟩
    · rw [loadBuffer_of_overflow (Nat.lt_of_not_le hc)] at h
      cases h; exact .inr (.inr ⟨Nat.le_of_not_lt hn, Nat.lt_of_not_le hc, rfl⟩)

/-! ### What is done with a read frame (R161 to R165, R173) -/

/-- R162, R163: a WTX request that passed its checks is accepted for service or times out. -/
theorem serveWtx_cases (m : Byte) (s : State) :
    (withinWtxBound s (s.cfg.wtxBaseUnit * m.toNat) = true ∧
      serveWtx m s = { s with
        wtxM := m, wtxCnt := s.wtxCnt + 1, wtxTotal := s.wtxTotal + s.cfg.wtxBaseUnit * m.toNat, fsm := .wtxWait }) ∨
    (withinWtxBound s (s.cfg.wtxBaseUnit * m.toNat) = false ∧ serveWtx m s = s.completeErr .timeout) := by
  by_cases h : withinWtxBound s (s.cfg.wtxBaseUnit * m.toNat) = true
  · exact .inl ⟨h, by simp [serveWtx, h]⟩
  · exact .inr ⟨by simpa using h, by simp [serveWtx, h]⟩

/-- R161: the checks of a WTX request, in their order. -/
theorem handleWtx_cases (r : Bytes) (s : State) :
    handleWtx r s = s.completeErr .responseTooShort ∨
    (∃ b0 m b2 b3 extra, r = b0 :: m :: b2 :: b3 :: extra ∧
      ((s.frameAccepted [b0, m, b2, b3] = true ∧ handleWtx r s = serveWtx m (s.crcOfAccept [b0, m, b2, b3])) ∨
       (s.frameAccepted [b0, m, b2, b3] = false ∧
        handleWtx r s = (s.crcOfAccept [b0, m, b2, b3]).completeErr .checksumMismatch))) := by
  rcases r with _ | ⟨b0, _ | ⟨m, _ | ⟨b2, _ | ⟨b3, extra⟩⟩⟩⟩
  case cons.cons.cons.cons =>
    right
    refine ⟨b0, m, b2, b3, extra, rfl, ?_⟩
    cases h : s.frameAccepted [b0, m, b2, b3]
    · exact .inr ⟨rfl, by simp [handleWtx, h]⟩
    · exact .inl ⟨rfl, by simp [handleWtx, h]⟩
  all_goals exact .inl rfl

/-- R164, R165: a response is too short, or invalid, or returned. -/
theorem handleResponse_cases (r : Bytes) (s : State) :
    (r.length < s.cmdN.toNat ∧ handleResponse r s = s.completeErr .responseTooShort) ∨
    (s.cmdN.toNat ≤ r.length ∧ s.frameAccepted r = true ∧
      handleResponse r s = (s.crcOfAccept r).completeOk (decodeResponse r s.cmdN.toNat) 0#16) ∨
    (s.cmdN.toNat ≤ r.length ∧ s.frameAccepted r = false ∧
      handleResponse r s = (s.crcOfAccept r).completeErr .checksumMismatch) := by
  by_cases h : r.length < s.cmdN.toNat
  · exact .inl ⟨h, by simp [handleResponse, h]⟩
  · have h' := Nat.le_of_not_lt h
    cases hv : s.frameAccepted r
    · exact .inr (.inr ⟨h', rfl, by simp [handleResponse, h, hv]⟩)
    · exact .inr (.inl ⟨h', rfl, by simp [handleResponse, h, hv]⟩)

/-- R173: an acknowledgement is too short, or invalid, or accepted; the session is reset in each case (R174). -/
theorem handleDeselAck_cases (r : Bytes) (s : State) :
    (r.length < s.cfg.deselAckLen ∧ handleDeselAck r s = s.sessionReset.completeErr .responseTooShort) ∨
    (s.cfg.deselAckLen ≤ r.length ∧ s.frameAccepted r = true ∧
      handleDeselAck r s = (s.crcOfAccept r).sessionReset.completeOk [] 0#16) ∨
    (s.cfg.deselAckLen ≤ r.length ∧ s.frameAccepted r = false ∧
      handleDeselAck r s = (s.crcOfAccept r).sessionReset.completeErr .checksumMismatch) := by
  by_cases h : r.length < s.cfg.deselAckLen
  · exact .inl ⟨h, by simp [handleDeselAck, h]⟩
  · have h' := Nat.le_of_not_lt h
    cases hv : s.frameAccepted r
    · exact .inr (.inr ⟨h', rfl, by simp [handleDeselAck, h, hv]⟩)
    · exact .inr (.inl ⟨h', rfl, by simp [handleDeselAck, h, hv]⟩)

/-! ### The host port and the Engine's turn -/

/-- R40: a Host write that issues no command replaces `DIN` or is refused. -/
theorem hostWriteData_cases (reg : Nat) (v : PortValue) (s : State) :
    (∃ b, v = .bytes b ∧ reg = regDin ∧ b.length ≤ 65535 ∧ hostWriteData reg v s = { s with din := b }) ∨
    hostWriteData reg v s = s.refuse .badRegisterAccess := by
  cases v with
  | word32 w => exact .inr rfl
  | word16 w => exact .inr rfl
  | bytes b =>
    by_cases h : reg = regDin ∧ b.length ≤ 65535
    · exact .inl ⟨b, rfl, h.1, h.2, by simp [hostWriteData, h]⟩
    · exact .inr (by simp only [hostWriteData, if_neg h])

/-- R40: a Host read gives a value or is refused. -/
theorem hostReadRegister_cases (reg : Nat) (s : State) :
    (∃ v, hostReadRegister reg s = { s with readout := some v }) ∨
    hostReadRegister reg s = s.refuse .badRegisterAccess := by
  unfold hostReadRegister
  split
  · exact .inl ⟨_, rfl⟩
  · exact .inr rfl

/-- The Engine's turn issues the due request, or refuses where a frame cannot be made; nothing else. -/
theorem engineTurn_eq_some {s t : State} (h : engineTurn s = some t) :
    s.pending = none ∧
      ((∃ q, s.dueRequest = some q ∧ t = s.issue q) ∨
        (s.dueRequest = none ∧ s.fsm ≠ .idle ∧ t = s.refuse .bufferBounds)) := by
  unfold engineTurn at h
  split at h
  case isFalse => cases h
  case isTrue hp =>
    refine ⟨hp, ?_⟩
    split at h
    case h_1 q hq => cases h; exact .inl ⟨q, hq, rfl⟩
    case h_2 hq =>
      split at h
      · cases h
      · cases h; exact .inr ⟨hq, ‹_›, rfl⟩

/-- An answer that does not fit is discarded, or refused with its request standing, or only refused. -/
theorem unfitAnswer_cases (k : Nat) (a : Answer) (s : State) :
    (abandonedAt s k = true ∧ unfitAnswer k a s = s) ∨
    (abandonedAt s k = false ∧ ∃ q, s.dueRequest = some q ∧ k = s.hist.length ∧ transportAnswers q a = true ∧
      unfitAnswer k a s = (s.issue q).refuse .transportContract) ∨
    (abandonedAt s k = false ∧ unfitAnswer k a s = s.refuse .transportContract) := by
  cases hk : abandonedAt s k
  case true => exact .inl ⟨rfl, by simp [unfitAnswer, hk]⟩
  case false =>
    cases hq : s.dueRequest with
    | none => exact .inr (.inr ⟨rfl, by simp [unfitAnswer, hk, hq]⟩)
    | some q =>
      by_cases h : k = s.hist.length ∧ transportAnswers q a = true
      · exact .inr (.inl ⟨rfl, q, rfl, h.1, h.2, by rw [unfitAnswer, hq, if_neg (by simp [hk])]; exact if_pos h⟩)
      · exact .inr (.inr ⟨rfl, by rw [unfitAnswer, hq, if_neg (by simp [hk])]; exact if_neg h⟩)

/-! ### The step -/

/-- A step in a configuration R7 allows, with the sequencing laid open. -/
theorem step_of_configValid {s : State} (h : configValid s.cfg = true) :
    step s =
      match fetch s with
      | some x =>
        match decode s.cfg x with
        | .ok i => exec i (serve s)
        | .error _ => .next (notDecoded x (serve s))
      | none => withoutInstruction s := by
  unfold step runStep
  exact if_pos h

/-- A step in any other configuration. -/
theorem step_of_not_configValid {s : State} (h : configValid s.cfg = false) :
    step s = .next (s.refuse .badConfiguration) := by
  simp [step, runStep, h]

end Sys2Proof.Machine
end

