-- ==== Sys2Proof/Laws/PerInstr.lean ====
section
/-!
SUPPORT. Statements made for every instruction, one lemma per constructor. The family `RowBits`: the encoding of an
instruction shows the bits that its row of spec/opcode_table.json fixes, in configuration T (spec/30_encoding.md R71,
R81).
-/

namespace Sys2Proof.Laws

/-- The `match` and `mask` of an instruction's row, on the command word or on the first byte of the frame; a row the
table gives no such bits has mask 0. -/
def rowBits (i : Instr) : Nat × Nat :=
  match i with
  | .openSession => (0x00000001, 0xFFFFFFFF)
  | .exchange _ => (0x00000002, 0x0000FFFF)
  | .deselect => (0x00000003, 0xFFFFFFFF)
  | .crc16 _ => (0x00000004, 0x0000FFFF)
  | .encI _ => (0x00000005, 0xFFFFFFEF)
  | .encSDeselect => (0x00000006, 0xFFFFFFFF)
  | .encSWtx _ => (0x00000016, 0xFFFF00FF)
  | .isWtx _ => (0x00000007, 0xFFFF00FF)
  | .validate => (0x00000008, 0xFFFFFFFF)
  | .iBlockToggle0 _ => (0x02, 0xFF)
  | .iBlockToggle1 _ => (0x03, 0xFF)
  | .sDeselect => (0xC2, 0xFF)
  | .sWtxAck _ => (0xF2, 0xFF)
  | .sessionRequestWord => (0x26, 0xFF)
  | .wtxRequest _ => (0xF2, 0xFF)
  | .substantiveResponse _ => (0x00, 0x00)
  | .deselectAck _ => (0x00, 0x00)

/-- The bits a fetched thing shows to its row: the command word, or the first byte of a frame. -/
def shownBits (x : Fetched) : Nat :=
  match x with
  | .command w => w.toNat
  | .frame _ f => (f.headD 0#8).toNat

/-- The encoding of `i` shows its row's fixed bits. -/
def RowBits.Statement (i : Instr) : Prop := shownBits (encode Config.test i) &&& (rowBits i).2 = (rowBits i).1

theorem lowHalf (n c : Word16) (h : c.toNat < 2 ^ 16) : (n ++ c : BitVec 32).toNat &&& (2 ^ 16 - 1) = c.toNat := by
  rw [Nat.and_two_pow_sub_one_eq_mod, BitVec.toNat_append, ← Nat.shiftLeft_add_eq_or_of_lt h, Nat.shiftLeft_eq]
  omega

theorem RowBits.openSession : RowBits.Statement .openSession := by unfold RowBits.Statement; decide
theorem RowBits.exchange (n : Word16) : RowBits.Statement (.exchange n) := lowHalf n 2#16 (by decide)
theorem RowBits.deselect : RowBits.Statement .deselect := by unfold RowBits.Statement; decide
theorem RowBits.crc16 (n : Word16) : RowBits.Statement (.crc16 n) := lowHalf n 4#16 (by decide)
theorem RowBits.encI (t : Bool) : RowBits.Statement (.encI t) := by cases t <;> unfold RowBits.Statement <;> decide
theorem RowBits.encSDeselect : RowBits.Statement .encSDeselect := by unfold RowBits.Statement; decide
theorem RowBits.encSWtx (m : Byte) : RowBits.Statement (.encSWtx m) := by
  revert m; unfold RowBits.Statement; decide +kernel
theorem RowBits.isWtx (b : Byte) : RowBits.Statement (.isWtx b) := by
  revert b; unfold RowBits.Statement; decide +kernel
theorem RowBits.validate : RowBits.Statement .validate := by unfold RowBits.Statement; decide
theorem RowBits.iBlockToggle0 (inf : Bytes) : RowBits.Statement (.iBlockToggle0 inf) := by
  simp [RowBits.Statement, rowBits, shownBits, encode, Machine.iBlockFrame, Machine.appendCrc, Machine.iBlockPcb,
    Config.test]
theorem RowBits.iBlockToggle1 (inf : Bytes) : RowBits.Statement (.iBlockToggle1 inf) := by
  simp [RowBits.Statement, rowBits, shownBits, encode, Machine.iBlockFrame, Machine.appendCrc, Machine.iBlockPcb,
    Config.test]
theorem RowBits.sDeselect : RowBits.Statement .sDeselect := rfl
theorem RowBits.sWtxAck (m : Byte) : RowBits.Statement (.sWtxAck m) := by
  simp [RowBits.Statement, rowBits, shownBits, encode, Machine.appendCrc, Machine.encodeSWtx, Config.test]
theorem RowBits.sessionRequestWord : RowBits.Statement .sessionRequestWord := rfl
theorem RowBits.wtxRequest (tail : Bytes) : RowBits.Statement (.wtxRequest tail) := by
  simp [RowBits.Statement, rowBits, shownBits, encode, wtxMarker]
theorem RowBits.substantiveResponse (r : Bytes) : RowBits.Statement (.substantiveResponse r) := by
  simp [RowBits.Statement, rowBits]
theorem RowBits.deselectAck (r : Bytes) : RowBits.Statement (.deselectAck r) := by
  simp [RowBits.Statement, rowBits]

end Sys2Proof.Laws
end

