-- ==== Sys2Proof/Laws/Safety.lean ====
section
/-!
SUPPORT. The invariant of Safety.lean says nothing of what stands in `inbox` or was read last.
-/

namespace Sys2Proof.Safety

open Sys2Proof.Machine

theorem machineInv_withInbox {s : State} (h : MachineInv s) (l : List Input) : MachineInv { s with inbox := l } :=
  ⟨h.config, h.address, h.buffers, h.ceilings, h.result, h.latch, h.request, h.mark⟩

theorem machineInv_withReadout {s : State} (h : MachineInv s) (v : Option PortValue) :
    MachineInv { s with readout := v } :=
  ⟨h.config, h.address, h.buffers, h.ceilings, h.result, h.latch, h.request, h.mark⟩

theorem machineInv_refuse {s : State} (h : MachineInv s) (why : RefusalReason) : MachineInv (s.refuse why) :=
  ⟨h.config, h.address, h.buffers, h.ceilings, h.result, h.latch, h.request, by simp [State.refuse]⟩

end Sys2Proof.Safety
end

