-- ==== Sys2Proof/Tests/Slice0.lean ====
section
/-!
SUPPORT. The builder's own tests. Expected words, bytes and register values are those of spec/30_encoding.md (R81,
R82, R84 to R86) and of the vectors of spec/95_test_vectors.md, named `V-…` in the comments. After the tests, for every
statement of Certificates/Slice0/Obligations.lean that has hypotheses, states and operands that meet them.
-/

namespace Sys2Proof.Tests

set_option Elab.async false

open Sys2Proof Sys2Proof.Machine Sys2Proof.Safety

/-! ### Strings and states -/

/-- `[90 00]`, the payload of most vectors. -/
def pay : Bytes := [0x90#8, 0x00#8]

/-- `RSP0`. -/
def rsp0 : Bytes := [0x02#8, 0x90#8, 0x00#8, 0xF1#8, 0x09#8]

/-- `WTX2`. -/
def wtx2 : Bytes := [0xF2#8, 0x02#8, 0x0A#8, 0x72#8]

/-- `DACK`. -/
def dack : Bytes := [0xC2#8, 0xE0#8, 0xB4#8]

/-- A payload of `k` zero bytes. -/
def zeros (k : Nat) : Bytes := List.replicate k 0x00#8

/-- The reset state with `DIN` written. -/
def loaded (b : Bytes) : State := { State.reset with din := b }

/-- The Engine in state `p` of a command on `[90 00]` with expected length 5, toggle 1, one WTX request serviced. -/
def busyAt (p : Fsm) : State :=
  { State.reset with
    fsm := p, tog := true, cmdOp := if inDeselect p then 0x3#4 else 0x2#4
    cmdN := 5#16, pl := pay, rxcap := 5, wtxCnt := 1, wtxTotal := 2, wtxM := 2#8 }

/-- The Host writes the command word `w` to `CMD`. -/
def command (w : Word32) (s : State) : State := s.prepend (.hostWrite 0 (.word32 w))

/-- The Transport or the Timer answers the present request. -/
def answered (a : Answer) (s : State) : State := s.prepend (.answer s.hist.length a)

/-- What `look` shows of the next state of a step; `none` where there is none. -/
def stepShows {α : Type} (s : State) (look : State → α) : Option α :=
  match step s with
  | .next t => some (look t)
  | .fault _ => none
  | .refused _ => none

/-! ### WellFormed: an ill-formed term for each check -/

/-- `V-ENC-6`: 30 payload bytes pass the ceiling of 32. -/
theorem test_iBlock0_too_long : Instr.wellFormed Config.test (.iBlockToggle0 (zeros 30)) = false := by decide
theorem test_iBlock1_too_long : Instr.wellFormed Config.test (.iBlockToggle1 (zeros 30)) = false := by decide
/-- `V-ENC-5`: 29 payload bytes do not. -/
theorem test_iBlock0_at_ceiling : Instr.wellFormed Config.test (.iBlockToggle0 (zeros 29)) = true := by decide
/-- `V-CLS-2`: a frame that begins with the marker is no response. -/
theorem test_response_with_marker : Instr.wellFormed Config.test (.substantiveResponse [0xF2#8]) = false := by decide
/-- R7: each constraint refuses a configuration. -/
theorem test_odd_ipcb_base : configValid { Config.test with iPcbBase := 0x03#8 } = false := by decide
theorem test_marker_ipcb_base : configValid { Config.test with iPcbBase := 0xF2#8 } = false := by decide
theorem test_small_max_frame : configValid { Config.test with maxFrame := 3 } = false := by decide
theorem test_large_max_frame : configValid { Config.test with maxFrame := 65536 } = false := by decide
theorem test_empty_sreq_word : configValid { Config.test with sreqWord := [] } = false := by decide
theorem test_long_sreq_word : configValid { Config.test with sreqWord := zeros 33 } = false := by decide
theorem test_short_desel_ack : configValid { Config.test with deselAckLen := 2 } = false := by decide

/-! ### Decode: a written word for every constructor (R81, R86; R71 to R78) -/

theorem test_decode_open : decodeCommand 0x00000001#32 = .ok .openSession := by decide
theorem test_decode_exchange : decodeCommand 0x01050002#32 = .ok (.exchange 261#16) := by decide
theorem test_decode_deselect : decodeCommand 0x00000003#32 = .ok .deselect := by decide
theorem test_decode_crc16 : decodeCommand 0x63630004#32 = .ok (.crc16 0x6363#16) := by decide
theorem test_decode_encI0 : decodeCommand 0x00000005#32 = .ok (.encI false) := by decide
theorem test_decode_encI1 : decodeCommand 0x00000015#32 = .ok (.encI true) := by decide
theorem test_decode_encSDeselect : decodeCommand 0x00000006#32 = .ok .encSDeselect := by decide
theorem test_decode_encSWtx : decodeCommand 0x00003B16#32 = .ok (.encSWtx 0x3B#8) := by decide
theorem test_decode_isWtx : decodeCommand 0x0000F207#32 = .ok (.isWtx 0xF2#8) := by decide
theorem test_decode_validate : decodeCommand 0x00000008#32 = .ok .validate := by decide
theorem test_decode_iBlock0 :
    decode Config.test (.frame .sendI [0x02#8, 0x90#8, 0x00#8, 0xF1#8, 0x09#8]) = .ok (.iBlockToggle0 pay) := by
  decide +kernel
theorem test_decode_iBlock1 :
    decode Config.test (.frame .sendI [0x03#8, 0x90#8, 0x00#8, 0x2D#8, 0x53#8]) = .ok (.iBlockToggle1 pay) := by
  decide +kernel
theorem test_decode_sDeselect :
    decode Config.test (.frame .deselecting [0xC2#8, 0xE0#8, 0xB4#8]) = .ok .sDeselect := by decide +kernel
theorem test_decode_sWtxAck :
    decode Config.test (.frame .wtxAck [0xF2#8, 0x3B#8, 0x48#8, 0xDE#8]) = .ok (.sWtxAck 0x3B#8) := by decide +kernel
theorem test_decode_sessionWord :
    decode Config.test (.frame .sessionRequested [0x26#8]) = .ok .sessionRequestWord := by decide
theorem test_decode_wtxRequest :
    decode Config.test (.frame .awaitingResponse wtx2) = .ok (.wtxRequest [0x02#8, 0x0A#8, 0x72#8]) := by decide
theorem test_decode_response :
    decode Config.test (.frame .awaitingResponse rsp0) = .ok (.substantiveResponse rsp0) := by decide
theorem test_decode_deselectAck : decode Config.test (.frame .deselAck dack) = .ok (.deselectAck dack) := by decide

/-- `V-HP-1` to `V-HP-6`: words of no row. -/
theorem test_reserved_words :
    [0x00000000#32, 0x00000009#32, 0x0000000F#32, 0x00000021#32, 0x00000506#32, 0x00010001#32, 0x00000102#32].all
      (fun w => decodeCommand w == .error .reservedEncoding) = true := by decide
/-- R70: a frame of the Engine's own with its check bytes swapped is none. -/
theorem test_decode_swapped_crc :
    decode Config.test (.frame .sendI [0x02#8, 0x90#8, 0x00#8, 0x09#8, 0xF1#8]) = .error .wrongCheckBytes := by
  decide +kernel
/-- R79: a state that moves no frame decodes none. -/
theorem test_decode_idle_frame : decode Config.test (.frame .idle rsp0) = .error .noFrameInPhase := by decide
/-- `V-CLS-3`, `V-CLS-4`, `V-CLS-5`. -/
theorem test_classify :
    [[], dack, [0x02#8, 0xF2#8]].all (fun r => classify r == .response) = true ∧ classify [0xF2#8] = .wtx := by decide

/-! ### Text (R84, R85) -/

theorem test_parse_exchange :
    parseLine ['E', 'X', 'C', 'H', 'A', 'N', 'G', 'E', ' ', '[', '9', '0', ' ', '0', '0', ']', ',', ' ', '5'] =
      some (.exchange pay 5#16) := by decide
theorem test_parse_default_seed :
    parseLine ['C', 'R', 'C', '1', '6', ' ', '[', 'C', '2', ']'] = some (.crc16 [0xC2#8] 0x6363#16) := by decide
theorem test_parse_enc_s_wtx :
    parseLine ['E', 'N', 'C', '_', 'S', '_', 'W', 'T', 'X', ' ', '0', 'x', '3', 'B'] = some (.encSWtx 0x3B#8) := by decide
theorem test_assemble_exchange :
    assemble Config.test (.exchange pay 5#16) =
      [.hostWrite 3 (.bytes [0x90#8, 0x00#8]), .hostWrite 0 (.word32 0x00050002#32)] := by decide
theorem test_assemble_open : assemble Config.test .openSession = [.hostWrite 0 (.word32 0x00000001#32)] := by decide

/-! ### The commands, one step each -/

/-- `V-OP-1`. -/
theorem test_open :
    stepShows (command 0x00000001#32 { State.reset with tog := true, sreq := false, rxcap := 5, rxbuf := rsp0 })
      (fun t => (t.tog, t.sreq, t.rxcap, t.rxbuf, t.statusWord)) = some (false, true, 0, [], 0x0202#16) := by decide
/-- `V-HP-8`, R153: accepted at `n = 3`, on the way to the session request. -/
theorem test_exchange :
    stepShows (command 0x00030002#32 (loaded pay)) (fun t => (t.fsm, t.pl, t.cmdN, t.rxcap, t.done)) =
      some (.sessionRequested, pay, 3#16, 3, false) := by decide
/-- `V-EX-4` (here without the OPEN before it). -/
theorem test_exchange_too_large :
    stepShows (command 0x00050002#32 (loaded (zeros 30))) (fun t => (t.fsm, t.statusWord, t.hist)) =
      some (.idle, 0x0212#16, []) := by decide
/-- R171. -/
theorem test_deselect :
    stepShows (command 0x00000003#32 State.reset) (fun t => (t.fsm, t.rxcap, t.hist)) =
      some (.deselecting, 3, []) := by decide
/-- `V-HP-9`. -/
theorem test_deselect_busy :
    stepShows (command 0x00000003#32 (busyAt .awaitingResponse)) (fun t => (t.fsm, t.refusals)) =
      some (.awaitingResponse, [.busyCommand]) := by decide
/-- `V-CRCC-1`. -/
theorem test_crc16 :
    stepShows
      (command 0x63630004#32
        (loaded [0x31#8, 0x32#8, 0x33#8, 0x34#8, 0x35#8, 0x36#8, 0x37#8, 0x38#8, 0x39#8]))
      (fun t => (t.vout, t.dout, t.statusWord)) = some (0xBF05#16, [], 0x0202#16) := by decide +kernel
/-- `V-CRCC-2`: the CRC of nothing is the seed. -/
theorem test_crc16_empty : stepShows (command 0x12340004#32 State.reset) (·.vout) = some 0x1234#16 := by decide
/-- `V-ENC-2`: `tog` and `sreq` stay. -/
theorem test_encI :
    stepShows (command 0x00000015#32 (loaded pay)) (fun t => (t.dout, t.statusWord)) =
      some ([0x03#8, 0x90#8, 0x00#8, 0x2D#8, 0x53#8], 0x0202#16) := by decide +kernel
/-- `V-ENC-6`. -/
theorem test_encI_too_large :
    stepShows (command 0x00000005#32 (loaded (zeros 30))) (fun t => (t.dout, t.statusWord)) =
      some ([], 0x0212#16) := by decide
/-- `V-ENC-8`. -/
theorem test_encSDeselect :
    stepShows (command 0x00000006#32 State.reset) (·.dout) = some [0xC2#8, 0xE0#8, 0xB4#8] := by decide +kernel
/-- `V-ENC-13`: the multiplier is not masked. -/
theorem test_encSWtx :
    stepShows (command 0x0000FF16#32 State.reset) (·.dout) = some [0xF2#8, 0xFF#8, 0x60#8, 0x5E#8] := by
  decide +kernel
/-- `V-WTX-1`, `V-WTX-3`. -/
theorem test_isWtx : stepShows (command 0x0000F207#32 State.reset) (·.vout) = some 1#16 := by decide
theorem test_isWtx_next : stepShows (command 0x0000F307#32 State.reset) (·.vout) = some 0#16 := by decide
/-- `V-VAL-1`, `V-VAL-2`. -/
theorem test_validate :
    stepShows (command 0x00000008#32 (loaded rsp0)) (fun t => (t.vout, t.statusWord)) = some (1#16, 0x0202#16) := by
  decide +kernel
theorem test_validate_corrupted :
    stepShows (command 0x00000008#32 (loaded [0x02#8, 0x91#8, 0x00#8, 0xF1#8, 0x09#8]))
      (fun t => (t.vout, t.statusWord)) = some (0#16, 0x0202#16) := by decide +kernel
/-- `V-HP-7`. -/
theorem test_exchange_short :
    stepShows (command 0x00020002#32 State.reset) (fun t => (t.refusals, t.statusWord)) =
      some ([.shortExpectedLength], 0x0200#16) := by decide

/-! ### The frames, one step each -/

/-- R156: the flag is cleared by a written session request; `V-EX-5`: a failed one keeps it. -/
theorem test_session_request :
    stepShows (answered .writeOk (busyAt .sessionRequested)) (fun t => (t.fsm, t.sreq, t.txbuf, t.hist)) =
      some (.sendI, false, [0x26#8], [⟨.write 0x56 [0x26#8], some .writeOk⟩]) := by decide
theorem test_session_request_fails :
    stepShows (answered .error (busyAt .sessionRequested)) (fun t => (t.status, t.errPhase, t.sreq, t.done)) =
      some (1#3, 1#3, true, true) := by decide
/-- R158; `V-EX-6`: the toggle flips though the write fails. -/
theorem test_iBlock_sent :
    stepShows (answered .writeOk (busyAt .sendI)) (fun t => (t.fsm, t.tog, t.txbuf)) =
      some (.awaitingResponse, false, [0x03#8, 0x90#8, 0x00#8, 0x2D#8, 0x53#8]) := by decide +kernel
theorem test_iBlock_fails :
    stepShows (answered .error { busyAt .sendI with tog := false, sreq := false }) (·.statusWord) =
      some 0x0146#16 := by decide +kernel
/-- `V-EX-11`: `WTX2` within both ceilings. -/
theorem test_wtx_served :
    stepShows (answered (.readOk wtx2) { busyAt .awaitingResponse with wtxCnt := 0, wtxTotal := 0 })
      (fun t => (t.fsm, t.wtxCnt, t.wtxTotal, t.wtxM)) = some (.wtxWait, 1, 2, 2#8) := by decide +kernel
/-- `V-EX-13`: the fourth request. -/
theorem test_wtx_timeout :
    stepShows (answered (.readOk wtx2) { busyAt .awaitingResponse with wtxCnt := 3, sreq := false })
      (fun t => (t.statusWord, t.wtxCnt)) = some (0x0176#16, 3) := by decide +kernel
/-- `V-EX-1`, `V-EX-9`. -/
theorem test_response :
    stepShows (answered (.readOk rsp0) { busyAt .awaitingResponse with sreq := false })
      (fun t => (t.dout, t.statusWord)) = some ([0x02#8, 0x90#8, 0x00#8], 0x0102#16) := by decide +kernel
theorem test_response_short :
    stepShows (answered (.readOk [0x02#8, 0x90#8, 0x00#8, 0xF1#8]) { busyAt .awaitingResponse with sreq := false })
      (·.statusWord) = some 0x016E#16 := by decide
/-- `V-EX-11`: the acknowledgement, then the read again; `V-EX-19`. -/
theorem test_wtx_ack :
    stepShows (answered .writeOk (busyAt .wtxAck)) (fun t => (t.fsm, t.txbuf)) =
      some (.awaitingResponse, [0xF2#8, 0x02#8, 0x0A#8, 0x72#8]) := by decide +kernel
theorem test_wtx_ack_fails :
    stepShows (answered .error { busyAt .wtxAck with sreq := false }) (·.statusWord) = some 0x01A6#16 := by
  decide +kernel
/-- R166. -/
theorem test_wtx_wait :
    stepShows (answered .timer (busyAt .wtxWait)) (fun t => (t.fsm, t.hist)) =
      some (.wtxAck, [⟨.wait 2, some .timer⟩]) := by decide
/-- R172; `V-DS-2`. -/
theorem test_sDeselect_sent :
    stepShows (answered .writeOk (busyAt .deselecting)) (fun t => (t.fsm, t.txbuf)) =
      some (.deselAck, [0xC2#8, 0xE0#8, 0xB4#8]) := by decide +kernel
theorem test_sDeselect_fails :
    stepShows (answered .error (busyAt .deselecting)) (·.statusWord) = some 0x02C6#16 := by decide +kernel
/-- `V-DS-1`, `V-DS-6`. -/
theorem test_deselectAck :
    stepShows (answered (.readOk dack) (busyAt .deselAck)) (·.statusWord) = some 0x0202#16 := by decide +kernel
theorem test_deselectAck_wtx :
    stepShows (answered (.readOk [0xF2#8, 0x02#8, 0x0A#8]) (busyAt .deselAck)) (·.statusWord) = some 0x02EA#16 := by
  decide +kernel
/-- R22: an I-block of the other toggle is not due. -/
theorem test_frame_not_due : exec (.iBlockToggle0 pay) (busyAt .sendI) = .fault .frameNotDue := rfl

/-! ### Table words, and the sequencer -/

theorem test_table_words :
    [0x02, 0x03, 0xC2, 0xF2, 0x26].map (decodeTableWord 8) =
      [some (.iBlockToggle0 []), some (.iBlockToggle1 []), some .sDeselect, some (.sWtxAck 0#8),
        some .sessionRequestWord] := by decide +kernel
theorem test_placed_word_runs :
    stepShows (State.reset.withFetchWord 8 0xC2) (fun t => (t.fsm, t.hist)) =
      some (.deselAck, [⟨.write 0x56 [0xC2#8, 0xE0#8, 0xB4#8], some .writeOk⟩]) := by decide +kernel
theorem test_placed_command_runs :
    stepShows (State.reset.withFetchWord 32 0x00000003) (·.fsm) = some .deselecting := by decide
/-- `V-HP-10`. -/
theorem test_status_at_reset :
    stepShows (State.reset.prepend (.hostRead 1)) (·.readout) = some (some (.word16 0x0200#16)) := by decide
/-- R230: reset takes precedence, and the late answer is discarded. -/
theorem test_reset_in_flight :
    stepShows ({ busyAt .awaitingResponse with pending := some (.read 0x56 5) }.prepend .reset)
      (fun t => (t.fsm, t.pending, t.hist)) = some (.idle, none, [⟨.read 0x56 5, none⟩]) := by decide
/-- R230: the answer comes after the reset. -/
theorem test_late_answer :
    stepShows { State.reset with hist := [⟨.read 0x56 5, none⟩], inbox := [.answer 0 (.readOk rsp0)] }
      (fun t => (t.refused, t.hist.length)) = some (false, 1) := by decide
/-- R11: a write answered with bytes, a read answered as a write, an answer that nothing asked for. -/
theorem test_wrong_kind_of_answer :
    [busyAt .sendI, busyAt .deselAck, State.reset].map
        (fun s => stepShows (answered (if s.fsm = .sendI then .readOk rsp0 else .writeOk) s)
          (fun t => (t.fsm, t.refusals))) =
      [some (.sendI, [.transportContract]), some (.deselAck, [.transportContract]),
        some (.idle, [.transportContract])] := by decide +kernel
/-- R241: of two OPENs the first does not end the run, the second does. -/
theorem test_run_ends_with_last_command :
    let opens : State := command 0x00000001#32 (command 0x00000001#32 State.reset)
    stepShows opens (fun t => decide (Ended t)) = some false ∧
      stepShows { opens with inbox := opens.inbox.tail } (fun t => decide (Ended t)) = some true := by decide
theorem test_nothing_to_do : step State.reset = .fault .awaitingHost := rfl

/-! ### The memory form: buffers at reset are empty, and a write past the capacity is refused -/

theorem test_reset_buffers : BuffersFit State.reset := by decide
theorem test_write_past_capacity : memWrite 2 [0x01#8] 1 [0x02#8, 0x03#8] = none := by decide

/-! ### What meets the hypotheses of the statements

Each theorem names its statement; a number after the name is the clause. Where a clause has a range, the values are at
its bounds. -/

/-- The machine invariant in every Engine state, whatever stands in `inbox`. -/
theorem inv_busyAt (p : Fsm) (l : List Input) : MachineInv { busyAt p with inbox := l } := by
  apply machineInv_withInbox
  cases p <;> exact ⟨by decide, by decide, by decide, by decide, by decide, by decide, by decide, by decide⟩

theorem inv_reset (l : List Input) : MachineInv { State.reset with inbox := l } :=
  machineInv_withInbox ⟨by decide, by decide, by decide, by decide, by decide, by decide, by decide, by decide⟩ l

theorem witness_BytewiseCrcEqualsBitSerial : Config.test.crcPoly = 0x8408#16 := by decide
theorem witness_CrcResidueDecidesValidity :
    Config.test.crcPoly = 0x8408#16 ∧ 2 ≤ [0x63#8, 0x63#8].length ∧ valid Config.test [0x63#8, 0x63#8] = true ∧
      valid Config.test [0xC2#8, 0xE0#8, 0xB5#8] = false := by decide +kernel
theorem witness_ReservedWordsAreRejected_1 : (0x00000000#32).toNat % 16 = 0 := by decide
theorem witness_ReservedWordsAreRejected_2 :
    9 ≤ (0x00000009#32).toNat % 16 ∧ 9 ≤ (0x0000000F#32).toNat % 16 ∧ ¬ 9 ≤ (0x00000008#32).toNat % 16 := by decide
theorem witness_ReservedWordsAreRejected_3 :
    (0x00000021#32).toNat / 32 % 8 ≠ 0 ∧ (0x00000081#32).toNat / 32 % 8 ≠ 0 ∧ (0x00000016#32).toNat / 32 % 8 = 0 := by
  decide
theorem witness_DecodeOfEncode :
    configValid Config.test = true ∧ Instr.wellFormed Config.test (.iBlockToggle1 (zeros 29)) = true ∧
      Instr.wellFormed Config.test (.substantiveResponse []) = true := by decide
theorem witness_EncodeOfDecode :
    configValid Config.test = true ∧ decode Config.test (.frame .deselecting dack) = .ok .sDeselect := by decide +kernel
theorem witness_BusyCommandIsRefused :
    isCommand (.exchange 5#16) = true ∧ isCommand .validate = true ∧ isCommand .sDeselect = false ∧
      (busyAt .wtxWait).fsm ≠ .idle := by decide +kernel
theorem witness_idle_commands : State.reset.fsm = .idle := by decide
theorem witness_ExchangeAcceptance_1 :
    (loaded (zeros 29)).fsm = .idle ∧ 3 ≤ (3#16).toNat ∧ 3 ≤ (65535#16).toNat ∧
      (loaded (zeros 29)).din.length + 3 ≤ (loaded (zeros 29)).cfg.maxFrame := by decide
theorem witness_ExchangeAcceptance_2 :
    (loaded (zeros 30)).cfg.maxFrame < (loaded (zeros 30)).din.length + 3 := by decide
theorem witness_ShortExchangeIsRefused :
    State.reset.fsm = .idle ∧ (0#16).toNat < 3 ∧ (2#16).toNat < 3 := by decide
theorem witness_Crc16CommandResult : State.reset.fsm = .idle ∧ (busyAt .sendI).fsm ≠ .idle := by decide
theorem witness_ValidateCommandResult : (loaded rsp0).fsm = .idle ∧ (busyAt .deselAck).fsm ≠ .idle := by decide
theorem witness_EncICommandResult_1 :
    (loaded (zeros 29)).fsm = .idle ∧ (loaded (zeros 29)).din.length + 3 ≤ (loaded (zeros 29)).cfg.maxFrame := by decide
theorem witness_EncICommandResult_2 :
    (loaded (zeros 30)).fsm = .idle ∧ (loaded (zeros 30)).cfg.maxFrame < (loaded (zeros 30)).din.length + 3 := by decide

/-- A state in which the answer stands on the port, as `serve` leaves it. -/
def served (a : Answer) (s : State) : State := { s with answer := some a }

theorem witness_SessionRequestStep :
    (served .writeOk (busyAt .sessionRequested)).fsm = .sessionRequested ∧
      State.reset.cfg.sreqWord.length ≤ State.reset.cfg.maxFrame ∧
      (served .writeOk (busyAt .sessionRequested)).answer = some .writeOk ∧
      (served .error (busyAt .sessionRequested)).answer = some .error := by decide
theorem witness_IBlockStep :
    (served .writeOk (busyAt .sendI)).fsm = .sendI ∧ (served .writeOk (busyAt .sendI)).tog = true ∧
      (served .error (busyAt .sendI)).pl = pay ∧ pay.length + 3 ≤ (busyAt .sendI).cfg.maxFrame ∧
      (zeros 29).length + 3 ≤ (busyAt .sendI).cfg.maxFrame := by decide
theorem witness_WtxAckStep :
    (served .writeOk (busyAt .wtxAck)).fsm = .wtxAck ∧ (served .error (busyAt .wtxAck)).wtxM = 2#8 ∧
      4 ≤ (busyAt .wtxAck).cfg.maxFrame := by decide
theorem witness_DeselectStep :
    (served .error (busyAt .deselecting)).fsm = .deselecting ∧ 4 ≤ (busyAt .deselecting).cfg.maxFrame ∧
      (busyAt .deselecting).cfg.sourceValues = true := by decide
/-- With five bytes read, one after the fourth, and one more request allowed by a ceiling of 2. -/
theorem witness_WtxRequestIsServed :
    let s : State := { busyAt .awaitingResponse with cfg := { Config.test with wtxMaxRetries := .fin 2 } }
    s.fsm = .awaitingResponse ∧ [0x00#8].length + 4 ≤ s.cmdN.toNat ∧ s.cmdN.toNat ≤ s.rxcap ∧
      valid Config.test [0xF2#8, 0x02#8, 0x0A#8, 0x72#8] = true ∧
      boundAdmits s.cfg.wtxMaxRetries (s.wtxCnt + 1) = true ∧
      boundAdmits s.cfg.wtxMaxWait (s.wtxTotal + s.cfg.wtxBaseUnit * (2#8).toNat) = true := by decide +kernel
theorem witness_WtxRequestFailures_1 :
    (busyAt .awaitingResponse).fsm = .awaitingResponse ∧
      [0x02#8, 0x0A#8].length + 1 ≤ (busyAt .awaitingResponse).cmdN.toNat ∧
      (busyAt .awaitingResponse).cmdN.toNat ≤ (busyAt .awaitingResponse).rxcap ∧ [0x02#8, 0x0A#8].length < 3 := by decide
theorem witness_WtxRequestFailures_2 :
    [0x02#8, 0x0A#8, 0x73#8].length + 1 ≤ (busyAt .awaitingResponse).cmdN.toNat ∧ 3 ≤ [0x02#8, 0x0A#8, 0x73#8].length ∧
      (busyAt .awaitingResponse).cfg.rxCrcCheck = true ∧
      valid Config.test ([0xF2#8, 0x02#8, 0x0A#8, 0x73#8].take 4) = false := by decide +kernel
theorem witness_WtxRequestFailures_3 :
    valid Config.test (wtx2.take 4) = true ∧
      boundAdmits (Bound.fin 3) ({ busyAt .awaitingResponse with wtxCnt := 3 }.wtxCnt + 1) = false ∧
      boundAdmits (Bound.fin 5) (4 + 1 * (2#8).toNat) = false := by decide +kernel
theorem witness_ResponseStep_1 :
    (busyAt .awaitingResponse).fsm = .awaitingResponse ∧ rsp0.length = (busyAt .awaitingResponse).cmdN.toNat ∧
      (busyAt .awaitingResponse).cmdN.toNat ≤ (busyAt .awaitingResponse).rxcap ∧
      3 ≤ (busyAt .awaitingResponse).cmdN.toNat ∧ valid Config.test rsp0 = true := by decide +kernel
theorem witness_ResponseStep_2 :
    (rsp0.take 4).length < (busyAt .awaitingResponse).cmdN.toNat ∧
      ([] : Bytes).length < (busyAt .awaitingResponse).cmdN.toNat := by decide
theorem witness_ResponseStep_3 :
    [0x02#8, 0x91#8, 0x00#8, 0xF1#8, 0x09#8].length = (busyAt .awaitingResponse).cmdN.toNat ∧
      (busyAt .awaitingResponse).cfg.rxCrcCheck = true ∧
      valid Config.test [0x02#8, 0x91#8, 0x00#8, 0xF1#8, 0x09#8] = false := by decide +kernel
theorem witness_DeselectAckStep_1 :
    (busyAt .deselAck).fsm = .deselAck ∧ dack.length = (busyAt .deselAck).cfg.deselAckLen ∧
      (busyAt .deselAck).cfg.deselAckLen ≤ (busyAt .deselAck).rxcap ∧ 3 ≤ (busyAt .deselAck).cfg.deselAckLen ∧
      valid Config.test dack = true := by decide +kernel
theorem witness_DeselectAckStep_2 : (dack.take 2).length < (busyAt .deselAck).cfg.deselAckLen := by decide
theorem witness_DeselectAckStep_3 :
    [0xF2#8, 0x02#8, 0x0A#8].length = (busyAt .deselAck).cfg.deselAckLen ∧
      (busyAt .deselAck).cfg.rxCrcCheck = true ∧ valid Config.test [0xF2#8, 0x02#8, 0x0A#8] = false := by decide +kernel
theorem witness_OverlongReadIsRefused_1 :
    (busyAt .awaitingResponse).fsm = .awaitingResponse ∧
      (busyAt .awaitingResponse).cmdN.toNat < (rsp0 ++ [0x00#8]).length := by decide
theorem witness_OverlongReadIsRefused_2 :
    (busyAt .awaitingResponse).cmdN.toNat < (zeros 5).length + 1 := by decide
theorem witness_OverlongReadIsRefused_3 :
    (busyAt .deselAck).fsm = .deselAck ∧ (busyAt .deselAck).cfg.deselAckLen < (dack ++ [0x00#8]).length := by decide
theorem witness_StepRunsTheDecodedInstruction :
    configValid State.reset.cfg = true ∧ fetch (command 0x00000003#32 State.reset) = some (.command 0x00000003#32) ∧
      decode State.reset.cfg (.command 0x00000003#32) = .ok .deselect := by decide
/-- The same for a frame: the Transport has answered the write of `SEND_I`. -/
theorem witness_StepRunsTheDecodedInstruction_frame :
    let f : Bytes := [0x03#8, 0x90#8, 0x00#8, 0x2D#8, 0x53#8]
    fetch (answered .writeOk (busyAt .sendI)) = some (.frame .sendI f) ∧
      decode Config.test (.frame .sendI f) = .ok (.iBlockToggle1 pay) := by decide +kernel
theorem witness_CommandWriteRunsItsRow :
    configValid State.reset.cfg = true ∧
      (command 0x00000008#32 State.reset).inbox = .hostWrite 0 (.word32 0x00000008#32) :: [] ∧
      decodeCommand 0x00000008#32 = .ok .validate ∧ decodeCommand 0x00000009#32 = .error .reservedEncoding := by decide
theorem witness_AnsweredWriteRunsTheDueFrame (p : Fsm) :
    MachineInv { busyAt p with inbox := [.answer 0 .error] } ∧
      (answered .error (busyAt p)).inbox = .answer (answered .error (busyAt p)).hist.length .error :: [] ∧
      (busyAt p).fsm = p := ⟨inv_busyAt p _, rfl, rfl⟩
theorem witness_AnsweredReadRunsItsFrame :
    configValid (busyAt .awaitingResponse).cfg = true ∧
      (answered (.readOk wtx2) (busyAt .awaitingResponse)).inbox = .answer 0 (.readOk wtx2) :: [] ∧
      wtx2 = 0xF2#8 :: [0x02#8, 0x0A#8, 0x72#8] ∧ ([] : Bytes).head? ≠ some 0xF2#8 ∧ (busyAt .deselAck).fsm = .deselAck := by
  decide
theorem witness_FailedReadStep :
    configValid (busyAt .deselAck).cfg = true ∧ (busyAt .awaitingResponse).fsm = .awaitingResponse ∧
      (answered .error (busyAt .deselAck)).inbox = .answer 0 .error :: [] ∧ (busyAt .deselAck).fsm = .deselAck := by
  decide
theorem witness_WtxWaitStep :
    configValid (busyAt .wtxWait).cfg = true ∧ (answered .timer (busyAt .wtxWait)).fsm = .wtxWait ∧
      (answered .timer (busyAt .wtxWait)).inbox = .answer 0 .timer :: [] := by decide
theorem witness_RequestStandsUntilAnswered :
    MachineInv { busyAt .sendI with inbox := [] } ∧ MachineInv { State.reset with inbox := [] } ∧
      (busyAt .sendI).fsm ≠ .idle ∧ (busyAt .sendI).pending = none :=
  ⟨inv_busyAt _ _, inv_reset _, by decide, by decide⟩
theorem witness_RequestStandsUntilAnswered_pending :
    MachineInv { busyAt .wtxWait with pending := some (.wait 2) } ∧
      MachineInv { busyAt .deselAck with pending := some (.read 0x56 3) } :=
  ⟨⟨by decide, by decide, by decide, by decide, by decide, by decide, by decide, by decide⟩,
    ⟨by decide, by decide, by decide, by decide, by decide, by decide, by decide, by decide⟩⟩
theorem witness_LateAnswerIsDiscarded :
    let s : State := { State.reset with hist := [⟨.read 0x56 5, none⟩], inbox := [.answer 0 (.readOk rsp0)] }
    configValid s.cfg = true ∧ s.inbox = .answer 0 (.readOk rsp0) :: [] ∧ s.hist[0]? = some ⟨.read 0x56 5, none⟩ := by
  decide
/-- Wrong kinds, and places at, above and below the end of `hist`. -/
theorem witness_AnswerOutsideContractIsRefused :
    configValid State.reset.cfg = true ∧ 0 = (busyAt .sessionRequested).hist.length ∧
      (busyAt .sessionRequested).dueRequest = some (.write 0x56 [0x26#8]) ∧
      (busyAt .awaitingResponse).dueRequest = some (.read 0x56 5) ∧ (busyAt .wtxWait).dueRequest = some (.wait 2) ∧
      State.reset.dueRequest = none ∧ State.reset.hist.length < 1 ∧
      { State.reset with hist := [⟨.wait 2, some .timer⟩] }.hist[0]? = some ⟨.wait 2, some .timer⟩ := by decide
theorem witness_ResetInputSetsEveryRegister :
    configValid (busyAt .wtxAck).cfg = true ∧ ((busyAt .wtxAck).prepend .reset).inbox = .reset :: [] ∧
      { busyAt .wtxWait with pending := some (.wait 2) }.pending = some (.wait 2) := by decide
theorem witness_BadConfigurationIsRefused :
    (0x03#8).toNat % 2 = 1 ∧ { Config.test with maxFrame := 3 }.maxFrame < 4 ∧
      65535 < { Config.test with maxFrame := 65536 }.maxFrame ∧ { Config.test with deselAckLen := 2 }.deselAckLen < 3 ∧
      Config.test.maxFrame < { Config.test with sreqWord := zeros 33 }.sreqWord.length := by decide
theorem witness_HostReadsResultRegisters :
    configValid State.reset.cfg = true ∧ (State.reset.prepend (.hostRead 4)).inbox = .hostRead 4 :: [] := by decide
theorem witness_DinWriteReplacesContent :
    configValid (busyAt .sendI).cfg = true ∧ pay.length ≤ 65535 ∧
      ((busyAt .sendI).prepend (.hostWrite 3 (.bytes pay))).inbox = .hostWrite 3 (.bytes pay) :: [] := by decide
theorem witness_BadRegisterAccessIsRefused :
    configValid State.reset.cfg = true ∧ (1 : Nat) ≠ 0 ∧ (1 : Nat) ≠ 3 ∧ 5 ≤ (5 : Nat) ∧
      (State.reset.prepend (.hostWrite 1 (.word16 0#16))).inbox = .hostWrite 1 (.word16 0#16) :: [] ∧
      (State.reset.prepend (.hostRead 3)).inbox = .hostRead 3 :: [] := by decide
theorem witness_AssembledLineRunsItsCommand :
    MachineInv { State.reset with inbox := assemble Config.test (.exchange pay 5#16) } ∧
      ((asmData (.exchange pay 5#16)).getD []).length ≤ 65535 := ⟨inv_reset _, by decide⟩
theorem witness_ResetStateMeetsInv : configValid { Config.test with wtxMaxRetries := .inf } = true := by decide
/-- A step of the invariant's statement: the step taken is a whole one, with its event. -/
theorem witness_StepKeepsInv :
    MachineInv (answered .timer (busyAt .wtxWait)) ∧
      stepShows (answered .timer (busyAt .wtxWait)) (·.hist.length) = some 1 := ⟨inv_busyAt _ _, by decide⟩
theorem witness_StepGoesOnWhileAnAgentActs :
    MachineInv { busyAt .sendI with inbox := [.turn] } ∧ MachineInv { State.reset with inbox := [] } ∧
      step State.reset = .fault .awaitingHost := ⟨inv_busyAt _ _, inv_reset _, rfl⟩
theorem witness_HistoryGrowsAndMarkSticks :
    stepShows (command 0x00000000#32 { State.reset with refused := true }) (·.refused) = some true := by decide
theorem witness_ToggleIsWrittenOnlyBySendAndReset :
    stepShows (answered .error (busyAt .sendI)) (·.tog) = some false ∧ (busyAt .sendI).tog = true ∧
      stepShows (command 0x00000001#32 { State.reset with tog := true }) (·.tog) = some false ∧
      stepShows ((busyAt .wtxWait).prepend .reset) (·.tog) = some false ∧
      stepShows (answered .error (busyAt .deselAck)) (·.tog) = some false := by decide +kernel
theorem witness_SessionFlagClearedOnlyByItsWrite :
    (busyAt .sessionRequested).sreq = true ∧
      stepShows (answered .writeOk (busyAt .sessionRequested)) (·.sreq) = some false := by decide
theorem witness_HostCannotMoveABusyEngine :
    MachineInv { busyAt .wtxWait with inbox := [.hostWrite 3 (.bytes pay)] } ∧ (busyAt .wtxWait).fsm ≠ .idle ∧
      stepShows { busyAt .wtxWait with inbox := [.hostWrite 3 (.bytes pay)] } (·.din) = some pay :=
  ⟨inv_busyAt _ _, by decide, by decide⟩
theorem witness_NoCommandDuringWtxService :
    MachineInv { busyAt .wtxAck with inbox := [.answer 0 .writeOk] } ∧ (busyAt .wtxAck).fsm = .wtxAck ∧
      (answered .writeOk (busyAt .wtxAck)).inbox.head? ≠ some .reset ∧
      stepShows (answered .writeOk (busyAt .wtxAck)) (·.hist.length) = some 1 :=
  ⟨inv_busyAt _ _, by decide, by decide, by decide +kernel⟩
theorem witness_EveryWriteIsAWordOrAValidFrame :
    MachineInv (answered .writeOk (busyAt .deselecting)) ∧
      stepShows (answered .writeOk (busyAt .deselecting)) (·.hist) = some [⟨.write 0x56 dack, some .writeOk⟩] :=
  ⟨inv_busyAt _ _, by decide +kernel⟩
theorem witness_OnlyValidatedDataReachesTheHost :
    MachineInv (answered (.readOk rsp0) (busyAt .awaitingResponse)) ∧ (busyAt .awaitingResponse).cfg.rxCrcCheck = true ∧
      stepShows (answered (.readOk rsp0) (busyAt .awaitingResponse)) (fun t => (t.done, t.status)) = some (true, 0#3) :=
  ⟨inv_busyAt _ _, by decide, by decide +kernel⟩
/-- A failing step in each state that can fail. -/
theorem witness_FailureLeavesTheSessionConsistent :
    [Fsm.sessionRequested, .sendI, .awaitingResponse, .wtxAck, .deselecting, .deselAck].map
      (fun p => stepShows (answered .error (busyAt p)) (fun t => (t.done, t.status))) =
      List.replicate 6 (some (true, 1#3)) := by decide +kernel

/-- An answer for every state: waits complete, transfers fail. -/
def failing (s : State) : Answer := if s.fsm = .wtxWait then .timer else .error

theorem failing_legal (t : State) (ht : MachineInv t) (hb : t.fsm ≠ .idle) : legalAnswer t (failing t) = true := by
  have hl := ht.latch.2.1
  cases hf : t.fsm <;> simp_all [legalAnswer, answerFits, failing, State.dueRequest, inExchange, encodeI]
  rw [if_neg (Nat.not_lt.mpr hl.2.2.2)]; rfl

theorem witness_AnsweredCommandsEnd :
    MachineInv (busyAt .sendI) ∧ (busyAt .sendI).fsm ≠ .idle ∧ (busyAt .sendI).cfg.wtxMaxRetries = .fin 3 ∧
      ∀ t : State, MachineInv t → t.fsm ≠ .idle → legalAnswer t (failing t) = true :=
  ⟨inv_busyAt .sendI [], by decide, by decide, failing_legal⟩

/-- `[90 00]`, two WTX requests with multiplier 2, then `RSP0` (`V-EX-11`, P2). -/
def twoWtx : Exchange := ⟨pay, [2#8, 2#8], rsp0⟩

theorem witness_ExchangeRunsToItsResponse :
    MachineInv { State.reset with inbox := exchangeScript Config.test true 0 twoWtx } ∧ State.reset.fsm = .idle ∧
      exchangeSucceeds State.reset.cfg twoWtx = true ∧ State.reset.sreq = true ∧ State.reset.hist.length = 0 :=
  ⟨inv_reset _, by decide, by decide +kernel, by decide, by decide⟩
theorem witness_ToggleAlternatesOverASession :
    MachineInv { State.reset with inbox := sessionScript Config.test true 0 [twoWtx, ⟨zeros 29, [], rsp0⟩] } ∧
      [twoWtx, ⟨zeros 29, [], rsp0⟩].all (exchangeSucceeds Config.test) = true :=
  ⟨inv_reset _, by decide +kernel⟩
theorem witness_DeselectResetsTheSession :
    MachineInv { State.reset with inbox := deselectScript 0 dack ++ exchangeScript Config.test true 2 twoWtx } ∧
      dack.length = State.reset.cfg.deselAckLen ∧ valid Config.test dack = true ∧
      exchangeSucceeds State.reset.cfg twoWtx = true :=
  ⟨inv_reset _, by decide, by decide +kernel, by decide +kernel⟩

end Sys2Proof.Tests
end

section
/-!
SUPPORT. The decoder on what the Engine sends (spec/30_encoding.md R70 to R74, R78): a frame the Engine makes in its
present state decodes to the instruction whose meaning is the step that sends it.
-/

namespace Sys2Proof.Machine

open Sys2Proof.Safety

/-! ### Check bytes (R103, R104) -/

/-- The two check bytes of a CRC value stand for that value (R52, R103). -/
theorem checkValue_crcBytes (c : Word16) : checkValue (c.extractLsb' 0 8) (c.extractLsb' 8 8) = c := by
  refine BitVec.eq_of_getLsbD_eq fun i hi => ?_
  simp only [checkValue, BitVec.getLsbD_or, BitVec.getLsbD_shiftLeft, BitVec.getLsbD_setWidth,
    BitVec.getLsbD_extractLsb']
  by_cases h : i < 8
  · simp [h, hi]
  · have hhigh : i - 8 < 8 := by omega
    have hindex : 8 + (i - 8) = i := by omega
    simp [h, hi, hhigh, hindex]
    omega

@[simp] theorem appendCrc_length (cfg : Config) (b : Bytes) : (appendCrc cfg b).length = b.length + 2 := by
  simp [appendCrc, crcBytes]

@[simp] theorem dataPart_appendCrc (cfg : Config) (b : Bytes) : dataPart (appendCrc cfg b) = b := by
  rw [dataPart, appendCrc_length]
  simp [appendCrc]

/-- R103, R104: a string with its check bytes appended is valid. -/
@[simp] theorem valid_appendCrc (cfg : Config) (b : Bytes) : valid cfg (appendCrc cfg b) = true := by
  have hcheck : (appendCrc cfg b).drop ((appendCrc cfg b).length - 2) = crcBytes (crc16 cfg b cfg.crcSeed) := by
    rw [appendCrc_length]
    simp [appendCrc]
  rw [valid, hcheck, dataPart_appendCrc]
  simp [crcBytes, checkValue_crcBytes]

/-! ### The I-block (R72) -/

/-- R7: the base PCB leaves bit 0 to the toggle, so the PCB tells the toggle. -/
theorem iBlockPcb_inj {cfg : Config} (hbase : cfg.iPcbBase.getLsbD 0 = false) {t u : Bool} :
    iBlockPcb cfg t = iBlockPcb cfg u ↔ t = u := by
  have hbit (b : Bool) : (iBlockPcb cfg b).getLsbD 0 = b := by
    simp only [iBlockPcb, BitVec.getLsbD_or, BitVec.getLsbD_setWidth, hbase]
    cases b <;> rfl
  constructor
  · intro h
    rw [← hbit t, h, hbit u]
  · rintro rfl
    rfl

@[simp] theorem iBlockFrame_head? (cfg : Config) (t : Bool) (p : Bytes) :
    (iBlockFrame cfg t p).head? = some (iBlockPcb cfg t) := rfl

@[simp] theorem iBlockFrame_length (cfg : Config) (t : Bool) (p : Bytes) :
    (iBlockFrame cfg t p).length = p.length + 3 := by
  simp [iBlockFrame]

@[simp] theorem infField_iBlockFrame (cfg : Config) (t : Bool) (p : Bytes) : infField (iBlockFrame cfg t p) = p := by
  simp [infField, iBlockFrame]

/-- R120: an I-block is encoded exactly where its frame fits the ceiling. -/
theorem encodeI_eq_some {cfg : Config} {t : Bool} {p f : Bytes} :
    encodeI cfg t p = some f ↔ p.length + 3 ≤ cfg.maxFrame ∧ f = iBlockFrame cfg t p := by
  unfold encodeI
  split
  case isTrue h => simp; omega
  case isFalse h => simp [Nat.le_of_not_lt h, eq_comm]

theorem decodeIBlock_iBlockFrame {cfg : Config} (hbase : cfg.iPcbBase.getLsbD 0 = false) (t : Bool) {p : Bytes}
    (hfits : p.length + 3 ≤ cfg.maxFrame) : decodeIBlock cfg (iBlockFrame cfg t p) = .ok (iBlockInstr t p) := by
  have hvalid : valid cfg (iBlockFrame cfg t p) = true := valid_appendCrc cfg _
  have hlen : ¬ ((iBlockFrame cfg t p).length < 3 ∨ cfg.maxFrame < (iBlockFrame cfg t p).length) := by
    rw [iBlockFrame_length]; omega
  rw [decodeIBlock, if_neg hlen]
  cases t <;> simp [hvalid, iBlockPcb_inj hbase, iBlockInstr]

/-! ### S-blocks (R73, R74) -/

theorem decodeSDeselect_encodeSDeselect (cfg : Config) :
    decodeSDeselect cfg (encodeSDeselect cfg) = .ok .sDeselect := by
  have hvalid : valid cfg (encodeSDeselect cfg) = true := valid_appendCrc cfg _
  simp only [encodeSDeselect, appendCrc, crcBytes, List.cons_append, List.nil_append] at hvalid ⊢
  simp [decodeSDeselect, hvalid]

theorem decodeSWtxAck_encodeSWtx (cfg : Config) (m : Byte) :
    decodeSWtxAck cfg (encodeSWtx cfg m) = .ok (.sWtxAck m) := by
  have hvalid : valid cfg (encodeSWtx cfg m) = true := valid_appendCrc cfg _
  simp only [encodeSWtx, appendCrc, crcBytes, List.cons_append, List.nil_append] at hvalid ⊢
  simp [decodeSWtxAck, hvalid]

/-! ### The constraints of R7 -/

theorem configValid_iff {c : Config} :
    configValid c = true ↔
      c.iPcbBase.getLsbD 0 = false ∧ c.iPcbBase ≠ wtxMarker ∧ 4 ≤ c.maxFrame ∧ c.maxFrame ≤ 65535 ∧
        1 ≤ c.sreqWord.length ∧ c.sreqWord.length ≤ c.maxFrame ∧ 3 ≤ c.deselAckLen := by
  simp only [configValid, decide_eq_true_eq]

/-! ### The frame of the present state -/

/-- The instruction whose meaning is the step that sends the frame of the present state (R22); `none` where the state
sends none. -/
def State.dueSend (s : State) : Option Instr :=
  match s.fsm with
  | .idle => none
  | .sessionRequested => some .sessionRequestWord
  | .sendI => some (iBlockInstr s.tog s.pl)
  | .awaitingResponse => none
  | .wtxWait => none
  | .wtxAck => some (.sWtxAck s.wtxM)
  | .deselecting => some .sDeselect
  | .deselAck => none

/-- The frame the Engine sends decodes to the instruction of the step that sends it. -/
theorem decode_outgoing {s : State} (hc : configValid s.cfg = true) {f : Bytes} (hf : s.outgoing = some f) :
    ∃ i, s.dueSend = some i ∧ decode s.cfg (.frame s.fsm f) = .ok i := by
  obtain ⟨hbase, -⟩ := configValid_iff.mp hc
  unfold State.outgoing at hf
  unfold State.dueSend
  cases hfsm : s.fsm <;> simp only [hfsm, reduceCtorEq, Option.some.injEq] at hf
  case sessionRequested => exact ⟨_, rfl, by simp [decode, hf]⟩
  case sendI =>
    obtain ⟨hfits, rfl⟩ := encodeI_eq_some.mp hf
    exact ⟨_, rfl, decodeIBlock_iBlockFrame hbase s.tog hfits⟩
  case wtxAck => exact ⟨_, rfl, hf ▸ decodeSWtxAck_encodeSWtx s.cfg s.wtxM⟩
  case deselecting => exact ⟨_, rfl, hf ▸ decodeSDeselect_encodeSDeselect s.cfg⟩

end Sys2Proof.Machine
end

section
/-!
SUPPORT. What the sequencer can fetch, and that the shared operations and the instructions it then runs answer a next
state (spec/00_scope.md R11, spec/42_session_fsm.md R155).
-/

namespace Sys2Proof.Machine

open Sys2Proof.Safety

/-! ### Outcomes that are a next state -/

/-- The outcome is a next state: the machine neither stops nor is refused by the host's interface. -/
def GoesOn (o : Host.Outcome State Fault Refusal) : Prop := ∃ t, o = .next t

theorem goesOn_next (t : State) : GoesOn (.next t) := ⟨t, rfl⟩

theorem acceptCommand_goesOn (op : BitVec 4) (rule : State → State) (s : State) :
    GoesOn (acceptCommand op rule s) := by
  by_cases h : s.fsm = .idle
  · exact ⟨_, acceptCommand_of_idle h⟩
  · exact ⟨_, acceptCommand_of_busy h⟩

theorem execExchange_goesOn (n : Word16) (s : State) : GoesOn (execExchange n s) := by
  unfold execExchange
  split
  · exact goesOn_next _
  · exact acceptCommand_goesOn _ _ _

theorem receiveFrame_goesOn (n : Nat) (r : Bytes) (handle : State → State) (s : State) :
    GoesOn (receiveFrame n r handle s) := by
  unfold receiveFrame
  split
  · exact goesOn_next _
  · split <;> exact goesOn_next _

/-- A write step is not stuck: its answer is on the port, or its request is not yet issued (R155). -/
def WriteReady (s : State) : Prop :=
  s.answer = some .writeOk ∨ s.answer = some .error ∨ (s.answer = none ∧ s.pending = none)

theorem sendFrame_goesOn {s : State} (h : WriteReady s) (f : Bytes) (before onError onOk : State → State) :
    GoesOn (sendFrame f before onError onOk s) := by
  unfold sendFrame
  split
  · exact goesOn_next _
  · obtain ha | ha | ⟨ha, hp⟩ := h
    · rw [ha]; exact goesOn_next _
    · rw [ha]; exact goesOn_next _
    · rw [ha]; exact ⟨_, if_pos hp⟩

/-! ### Instructions -/

/-- Every row of R81 is a command, and an accepted or refused command has a next state (R150). -/
theorem exec_build_goesOn {row : CommandRow} (hrow : row ∈ commandRows) (w : Word32) (s : State) :
    GoesOn (exec (row.build w) s) := by
  simp only [commandRows, List.mem_cons, List.not_mem_nil, or_false] at hrow
  obtain rfl | rfl | rfl | rfl | rfl | rfl | rfl | rfl | rfl := hrow
  case inr.inl => exact execExchange_goesOn _ _
  all_goals
    dsimp only [exec, execOpenSession, execDeselect, execCrc16, execEncI, execEncSDeselect, execEncSWtx, execIsWtx,
      execValidate]
    exact acceptCommand_goesOn _ _ _

/-- A decoded command word is built by a row of R81. -/
theorem decodeCommand_eq_ok {w : Word32} {i : Instr} (h : decodeCommand w = .ok i) :
    ∃ row ∈ commandRows, i = row.build w := by
  unfold decodeCommand at h
  split at h
  case h_1 row hrow => cases h; exact ⟨row, List.mem_of_find?_eq_some hrow, rfl⟩
  case h_2 => cases h

theorem exec_iBlockInstr (t : Bool) (p : Bytes) (s : State) : exec (iBlockInstr t p) s = sendIBlock t p s := by
  cases t <;> rfl

/-- The step that sends the frame of the present state goes on, unless its write is outstanding and unanswered. -/
theorem exec_dueSend_goesOn {s : State} {i : Instr} (hi : s.dueSend = some i) (hready : WriteReady s) :
    GoesOn (exec i s) := by
  unfold State.dueSend at hi
  cases hfsm : s.fsm <;> simp only [hfsm, reduceCtorEq, Option.some.injEq] at hi <;> subst hi
  case sessionRequested =>
    change GoesOn (execSessionRequestWord s)
    rw [execSessionRequestWord, whenDue_of hfsm]
    exact sendFrame_goesOn hready _ _ _ _
  case sendI =>
    rw [exec_iBlockInstr, sendIBlock, whenDue_of ⟨hfsm, rfl, rfl⟩]
    exact sendFrame_goesOn hready _ _ _ _
  case wtxAck =>
    change GoesOn (execSWtxAck s.wtxM s)
    rw [execSWtxAck, whenDue_of ⟨hfsm, rfl⟩]
    exact sendFrame_goesOn hready _ _ _ _
  case deselecting =>
    change GoesOn (execSDeselect s)
    rw [execSDeselect, whenDue_of hfsm]
    exact sendFrame_goesOn hready _ _ _ _

/-- What is read in a state that reads decodes, whatever the bytes (R79), and its step goes on (R160, R173). -/
theorem exec_readFrame_goesOn {s : State} {n : Nat} (hn : s.readLength = some n) (cfg : Config) (r : Bytes) :
    ∃ i, decode cfg (.frame s.fsm r) = .ok i ∧ GoesOn (exec i s) := by
  unfold State.readLength at hn
  cases hfsm : s.fsm <;> simp only [hfsm, reduceCtorEq] at hn
  case awaitingResponse =>
    refine ⟨decodeInbound r, rfl, ?_⟩
    unfold decodeInbound
    split
    · change GoesOn (execWtxRequest r.tail s)
      rw [execWtxRequest, whenDue_of hfsm]
      exact receiveFrame_goesOn _ _ _ _
    · change GoesOn (execSubstantiveResponse r s)
      rw [execSubstantiveResponse, whenDue_of hfsm]
      exact receiveFrame_goesOn _ _ _ _
  case deselAck =>
    refine ⟨.deselectAck r, rfl, ?_⟩
    change GoesOn (execDeselectAck r s)
    rw [execDeselectAck, whenDue_of hfsm]
    exact receiveFrame_goesOn _ _ _ _

/-! ### The answer of the present request (R55, R56, R215) -/

/-- The kind of answer the ports' contract allows for a request: a write is answered as a write, a read as a read, a
wait by the Timer. -/
def Request.takes (q : Request) (a : Answer) : Bool :=
  match q, a with
  | .write _ _, .writeOk => true
  | .write _ _, .error => true
  | .read _ _, .readOk _ => true
  | .read _ _, .error => true
  | .wait _, .timer => true
  | _, _ => false

theorem answerFits_iff {s : State} {k : Nat} {a : Answer} :
    answerFits s k a = true ↔ k = s.hist.length ∧ ∃ q, s.dueRequest = some q ∧ q.takes a = true := by
  unfold answerFits
  cases hq : s.dueRequest with
  | none => simp
  | some q => cases q <;> cases a <;> simp [Request.takes]

/-- A request that a read answers is the read of the present state. -/
theorem readLength_of_takes_readOk {s : State} {q : Request} {r : Bytes} (hq : s.dueRequest = some q)
    (hr : q.takes (.readOk r) = true) : ∃ n, s.readLength = some n := by
  unfold State.dueRequest at hq
  unfold State.readLength
  cases hfsm : s.fsm <;> simp only [hfsm, reduceCtorEq, Option.some.injEq, Option.map_eq_some_iff] at hq
  case awaitingResponse => exact ⟨_, rfl⟩
  case deselAck => exact ⟨_, rfl⟩
  case sendI =>
    obtain ⟨f, -, rfl⟩ := hq
    simp [Request.takes] at hr
  all_goals
    subst hq
    simp [Request.takes] at hr

/-! ### The sequencer -/

theorem fetchSend_eq_some {s : State} {x : Fetched} :
    fetchSend s = some x ↔ ∃ f, s.outgoing = some f ∧ x = .frame s.fsm f := by
  simp [fetchSend, eq_comm]

/-- Everything the sequencer can fetch: the Host's command word, the frame of the present state with its answer there
or its request not yet issued, or the bytes that the read of the present state returned. -/
theorem fetch_cases {s : State} {x : Fetched} (h : fetch s = some x) :
    (∃ w, x = .command w) ∨
    (∃ f, s.outgoing = some f ∧ x = .frame s.fsm f ∧ WriteReady (serve s)) ∨
    (∃ r n, s.readLength = some n ∧ x = .frame s.fsm r) := by
  have hsend (hx : fetchSend s = some x) (hready : WriteReady (serve s)) :
      ∃ f, s.outgoing = some f ∧ x = .frame s.fsm f ∧ WriteReady (serve s) := by
    obtain ⟨f, hf, hxf⟩ := fetchSend_eq_some.mp hx
    exact ⟨f, hf, hxf, hready⟩
  unfold fetch at h
  rcases hin : s.inbox with _ | ⟨act, rest⟩
  case nil =>
    simp only [hin] at h
    split at h
    case isTrue hp => exact .inr (.inl (hsend h (.inr (.inr ⟨serve_answer_of_nil hin, hp⟩))))
    case isFalse => cases h
  case cons =>
    cases act with
    | reset => simp [hin] at h
    | hostRead reg => simp [hin] at h
    | hostWrite reg v =>
      cases v <;> simp only [hin, reduceCtorEq] at h
      case word32 w =>
        split at h
        · cases h; exact .inl ⟨w, rfl⟩
        · cases h
    | turn =>
      simp only [hin] at h
      split at h
      case isTrue hp => exact .inr (.inl (hsend h (.inr (.inr ⟨serve_answer_of_turn hin, hp⟩))))
      case isFalse => cases h
    | answer k a =>
      simp only [hin] at h
      split at h
      case isFalse => cases h
      case isTrue hfits =>
        have hport := serve_answer_of_answer hin
        cases a with
        | timer => cases h
        | writeOk => exact .inr (.inl (hsend h (.inl hport)))
        | error => exact .inr (.inl (hsend h (.inr (.inl hport))))
        | readOk r =>
          cases h
          obtain ⟨-, q, hq, htakes⟩ := answerFits_iff.mp hfits
          obtain ⟨n, hn⟩ := readLength_of_takes_readOk hq htakes
          exact .inr (.inr ⟨r, n, hn, rfl⟩)

/-- A step that fetches something goes on. -/
theorem step_goesOn_of_fetch {s : State} (hc : configValid s.cfg = true) {x : Fetched} (hx : fetch s = some x) :
    GoesOn (step s) := by
  rw [step_of_configValid hc, hx]
  dsimp only
  obtain ⟨w, rfl⟩ | ⟨f, hf, rfl, hready⟩ | ⟨r, n, hn, rfl⟩ := fetch_cases hx
  · split
    case h_1 i hi =>
      obtain ⟨row, hrow, rfl⟩ := decodeCommand_eq_ok hi
      exact exec_build_goesOn hrow w (serve s)
    case h_2 => exact goesOn_next _
  · obtain ⟨i, hdue, hdec⟩ := decode_outgoing hc hf
    rw [hdec]
    exact exec_dueSend_goesOn (s := serve s) hdue hready
  · obtain ⟨i, hdec, hgo⟩ := exec_readFrame_goesOn (s := serve s) hn s.cfg r
    rw [serve_fsm] at hdec
    rw [hdec]
    exact hgo

/-- A step that runs no instruction goes on while an act is left; else it is the Engine's turn. -/
theorem withoutInstruction_cases (s : State) :
    GoesOn (withoutInstruction s) ∨
      (s.inbox = [] ∧ engineTurn s = none ∧ withoutInstruction s = .fault (stuckFault s)) := by
  unfold withoutInstruction
  rcases hin : s.inbox with _ | ⟨act, rest⟩
  case nil =>
    cases hturn : engineTurn s with
    | none => exact .inr ⟨rfl, rfl, rfl⟩
    | some t => exact .inl (goesOn_next t)
  case cons =>
    left
    cases act with
    | reset => exact goesOn_next _
    | hostRead reg => exact goesOn_next _
    | hostWrite reg v => exact goesOn_next _
    | turn =>
      dsimp only
      split <;> exact goesOn_next _
    | answer k a =>
      dsimp only
      split <;> exact goesOn_next _

/-- The Engine has no turn only where its request is outstanding or in `IDLE`. -/
theorem engineTurn_eq_none {s : State} (h : engineTurn s = none) : s.fsm = .idle ∨ s.pending ≠ none := by
  by_cases hp : s.pending = none
  · left
    unfold engineTurn at h
    rw [if_pos hp] at h
    split at h
    · cases h
    · by_contra hidle
      simp [hidle] at h
  · exact .inr hp

/-- Everything a step can do in a configuration R7 allows: it goes on, or it is stuck with nothing left to act. -/
theorem step_goesOn_or_stuck {s : State} (hc : configValid s.cfg = true) :
    GoesOn (step s) ∨
      (s.inbox = [] ∧ (s.fsm = .idle ∨ s.pending ≠ none) ∧ step s = .fault (stuckFault s)) := by
  cases hx : fetch s with
  | some x => exact .inl (step_goesOn_of_fetch hc hx)
  | none =>
    have hstep : step s = withoutInstruction s := by rw [step_of_configValid hc, hx]
    rw [hstep]
    exact (withoutInstruction_cases s).imp_right fun ⟨hin, hturn, hfault⟩ => ⟨hin, engineTurn_eq_none hturn, hfault⟩

/-! ### Answers outside the contract (R11) -/

theorem passTurn_of_cons {s : State} {act : Input} {rest : List Input} (h : s.inbox = act :: rest) :
    passTurn s = { s with inbox := rest } := by
  simp [passTurn, h]

/-- A step whose act is an answer that does not fit. -/
theorem step_of_unfit_answer {s : State} {k : Nat} {a : Answer} {rest : List Input} (hc : configValid s.cfg = true)
    (hin : s.inbox = .answer k a :: rest) (hfits : answerFits s k a = false) :
    step s = .next (unfitAnswer k a { s with inbox := rest }) := by
  have hfetch : fetch s = none := by simp [fetch, hin, hfits]
  rw [step_of_configValid hc, hfetch, ← passTurn_of_cons hin]
  simp [withoutInstruction, hin, hfits]

theorem abandonedAt_of_length_le {s : State} {k : Nat} (h : s.hist.length ≤ k) : abandonedAt s k = false := by
  simp [abandonedAt, h]

theorem abandonedAt_of_answered {s : State} {k : Nat} {q : Request} {b : Answer} (h : s.hist[k]? = some ⟨q, some b⟩) :
    abandonedAt s k = false := by
  simp [abandonedAt, h]

/-- The Transport answers its own request in the wrong kind: refused, and the request stands issued
(notes/assumptions/22.md). -/
theorem step_of_wrong_kind {s : State} {a : Answer} {rest : List Input} {q : Request} (hc : configValid s.cfg = true)
    (hin : s.inbox = .answer s.hist.length a :: rest) (hq : s.dueRequest = some q) (hkind : q.takes a = false)
    (hown : transportAnswers q a = true) :
    step s = .next (({ s with inbox := rest }.issue q).refuse .transportContract) := by
  have hfits : answerFits s s.hist.length a = false := by
    rw [Bool.eq_false_iff, ne_eq, answerFits_iff]
    simp [hq, hkind]
  have habandoned : abandonedAt { s with inbox := rest } s.hist.length = false :=
    abandonedAt_of_length_le (Nat.le_refl _)
  have hq' : ({ s with inbox := rest } : State).dueRequest = some q := hq
  rw [step_of_unfit_answer hc hin hfits, unfitAnswer, hq', if_neg (by simp [habandoned])]
  exact congrArg _ (if_pos ⟨rfl, hown⟩)

/-- An answer for no abandoned request that is neither the present request's nor the Transport's to it: refused, and
nothing else changes. -/
theorem step_of_unasked_answer {s : State} {k : Nat} {a : Answer} {rest : List Input} (hc : configValid s.cfg = true)
    (hin : s.inbox = .answer k a :: rest) (habandoned : abandonedAt s k = false)
    (hnone : ∀ q, s.dueRequest = some q → k = s.hist.length → q.takes a = false ∧ transportAnswers q a = false) :
    step s = .next ({ s with inbox := rest }.refuse .transportContract) := by
  have hfits : answerFits s k a = false := by
    rw [Bool.eq_false_iff, ne_eq, answerFits_iff]
    rintro ⟨hk, q, hq, htakes⟩
    rw [(hnone q hq hk).1] at htakes
    cases htakes
  rw [step_of_unfit_answer hc hin hfits]
  congr 1
  obtain ⟨h, -⟩ | ⟨-, q, hq, hk, hown, -⟩ | ⟨-, h⟩ := unfitAnswer_cases k a { s with inbox := rest }
  · exact absurd (habandoned.symm.trans h) Bool.false_ne_true
  · rw [(hnone q hq hk).2] at hown
    cases hown
  · exact h

end Sys2Proof.Machine
end

section
/-!
CERTIFICATE. The proofs of the statements of spec/00_scope.md: progress (R11, R155), configurations outside R7, and
answers outside the contract of the ports (R11, R55, R56, R59, R215).
-/

namespace Sys2Proof.Proofs

open Sys2Proof.Machine Sys2Proof.Safety

/-- Settles O47: of the invariant only the configuration is needed. Whatever the sequencer fetches in a state is due
there, so no frame's meaning stops, and what runs no instruction stops only with an empty `inbox`. -/
theorem stepGoesOnWhileAnAgentActs : Obligations.StepGoesOnWhileAnAgentActs := by
  intro s hinv
  obtain ⟨t, ht⟩ | ⟨hin, hwaits, hfault⟩ := step_goesOn_or_stuck hinv.config
  · simp [ht]
  · simp [hfault, hin, hwaits]

/-- Settles O39: each disjunct of the hypothesis denies one constraint of R7. -/
theorem badConfigurationIsRefused : Obligations.BadConfigurationIsRefused := by
  intro s hbad
  have hinvalid : configValid s.cfg = false := by
    rw [Bool.eq_false_iff, ne_eq, configValid_iff]
    rintro ⟨hbase, hmarker, hmin, hmax, hword, hfits, hack⟩
    obtain h | h | h | h | h | h | h := hbad
    · rw [BitVec.getLsbD, Nat.testBit_zero] at hbase
      simp [h] at hbase
    · exact hmarker h
    · omega
    · omega
    · simp [h] at hword
    · omega
    · omega
  exact ⟨s.inbox, step_of_not_configValid hinvalid⟩

/-- Settles O60: in the first case the answer is the Transport's to its own request, so that request stands issued; in
the other four it is nobody's answer to the present request, and no place it names is of an abandoned one. -/
theorem answerOutsideContractIsRefused : Obligations.AnswerOutsideContractIsRefused := by
  intro s k a rest hc hin marked
  refine ⟨fun hk hkind => ?wrongKind, fun hk hagent => ?wrongAgent, fun hk hno => ?noRequest, fun hk => ?beyond,
    fun ⟨q, b, hanswered⟩ => ?second⟩
  case wrongKind =>
    subst hk
    obtain ⟨addr, f, r, hq, rfl⟩ | ⟨addr, n, hq, rfl⟩ := hkind
    · rw [hq, step_of_wrong_kind hc hin hq rfl rfl]; rfl
    · rw [hq, step_of_wrong_kind hc hin hq rfl rfl]; rfl
  case wrongAgent =>
    refine step_of_unasked_answer hc hin (abandonedAt_of_length_le hk.ge) fun p hp _ => ?_
    obtain ⟨addr, f, hq, rfl⟩ | ⟨addr, n, hq, rfl⟩ | ⟨d, hq, hne⟩ := hagent
    · cases hq.symm.trans hp; exact ⟨rfl, rfl⟩
    · cases hq.symm.trans hp; exact ⟨rfl, rfl⟩
    · cases hq.symm.trans hp
      cases a with
      | timer => exact absurd rfl hne
      | _ => exact ⟨rfl, rfl⟩
  case noRequest =>
    exact step_of_unasked_answer hc hin (abandonedAt_of_length_le hk.ge) fun p hp _ => by simp [hno] at hp
  case beyond =>
    exact step_of_unasked_answer hc hin (abandonedAt_of_length_le hk.le) fun p _ hk' => by omega
  case second =>
    have hlt : k < s.hist.length := (List.getElem?_eq_some_iff.mp hanswered).1
    exact step_of_unasked_answer hc hin (abandonedAt_of_answered hanswered) fun p _ hk' => by omega

end Sys2Proof.Proofs
end

section
/-!
SUPPORT. Everything a step that answers a next state can have done, said once: as what a command does at its acceptance,
what the write of a frame does, what a read frame does, and what a step that runs no instruction does. Each inductive
lists the next states in terms of the named operations, and the lemmas under it find the meanings of the model there;
the whole-machine rules are then proved from these lists.
-/

namespace Sys2Proof.Machine

open Sys2Proof.Safety

/-- Nothing stands on the port. -/
@[simps] def State.portCleared (u : State) : State := { u with answer := none }

/-! ### Commands (R150 to R153, R171, R109, R110, R122, R125, R127) -/

/-- What the command word `w` does to `u`. -/
inductive CommandEffect (w : Word32) (u : State) : State → Prop
  | refused (why : RefusalReason) : CommandEffect w u (u.refuse why)
  | opened (hidle : u.fsm = .idle) (hw : w = 0x00000001#32) :
      CommandEffect w u ({ u with
        done := false, cmdOp := 0x1#4, tog := false, sreq := true
        wtxCnt := 0, wtxTotal := 0, wtxM := 0#8
        rxcap := 0, rxbuf := [], txbuf := [], pl := [], cmdN := 0#16 }.completeOk [] 0#16)
  | exchangeAccepted (n : Word16) (hidle : u.fsm = .idle) (hn : 3 ≤ n.toNat)
      (hfits : u.din.length + 3 ≤ u.cfg.maxFrame) :
      CommandEffect w u { u with
        done := false, cmdOp := 0x2#4, pl := u.din, cmdN := n, rxcap := max u.rxcap n.toNat
        wtxCnt := 0, wtxTotal := 0, fsm := if u.sreq then .sessionRequested else .sendI }
  | deselectAccepted (hidle : u.fsm = .idle) :
      CommandEffect w u { u with
        done := false, cmdOp := 0x3#4, rxcap := max u.rxcap u.cfg.deselAckLen, fsm := .deselecting }
  | codecDone (op : BitVec 4) (c : Word16) (x : Bytes) (v : Word16) (hidle : u.fsm = .idle) :
      CommandEffect w u ({ u with done := false, cmdOp := op, crcAcc := c }.completeOk x v)
  | payloadTooLarge (op : BitVec 4) (hidle : u.fsm = .idle) :
      CommandEffect w u ({ u with done := false, cmdOp := op }.completeErr .payloadTooLarge)

/-- R150: an acceptance is refused where the Engine is busy, else it is the row's rule. -/
theorem acceptCommand_effect {w : Word32} {op : BitVec 4} {rule : State → State} {u t : State}
    (h : acceptCommand op rule u = .next t)
    (hrule : u.fsm = .idle → CommandEffect w u (rule { u with done := false, cmdOp := op })) :
    CommandEffect w u t := by
  obtain ⟨hidle, rfl⟩ | ⟨-, rfl⟩ := acceptCommand_next h
  · exact hrule hidle
  · exact .refused _

theorem crcOfCheck_eq (u : State) (f : Bytes) : ∃ c, u.crcOfCheck f = { u with crcAcc := c } := by
  unfold State.crcOfCheck
  split
  · exact ⟨_, rfl⟩
  · exact ⟨u.crcAcc, rfl⟩

theorem crcOfAccept_eq (u : State) (f : Bytes) : ∃ c, u.crcOfAccept f = { u with crcAcc := c } := by
  unfold State.crcOfAccept
  split
  · exact crcOfCheck_eq u f
  · exact ⟨u.crcAcc, rfl⟩

theorem execExchange_effect {w : Word32} {n : Word16} {u t : State} (h : execExchange n u = .next t) :
    CommandEffect w u t := by
  unfold execExchange at h
  split at h
  case isTrue => cases h; exact .refused _
  case isFalse hlong =>
    refine acceptCommand_effect h fun hidle => ?_
    have hn : 3 ≤ n.toNat := by
      by_contra hshort
      exact hlong ⟨hidle, by omega⟩
    unfold acceptExchange
    split
    case isTrue => exact .payloadTooLarge _ hidle
    case isFalse hfits => exact .exchangeAccepted n hidle hn (Nat.le_of_not_lt hfits)

theorem execEncI_effect {w : Word32} {b : Bool} {u t : State} (h : execEncI b u = .next t) : CommandEffect w u t := by
  refine acceptCommand_effect h fun hidle => ?_
  dsimp only
  split
  · exact .codecDone _ _ _ _ hidle
  · exact .payloadTooLarge _ hidle

theorem execValidate_effect {w : Word32} {u t : State} (h : execValidate u = .next t) : CommandEffect w u t := by
  refine acceptCommand_effect h fun hidle => ?_
  obtain ⟨c, hc⟩ := crcOfCheck_eq { u with done := false, cmdOp := 0x8#4 } u.din
  dsimp only
  rw [hc]
  exact .codecDone _ _ _ _ hidle

/-- A decoded command word matches a row of R81, which builds the instruction from it. -/
theorem decodeCommand_matches {w : Word32} {i : Instr} (h : decodeCommand w = .ok i) :
    ∃ row ∈ commandRows, w &&& row.mask = row.pattern ∧ i = row.build w := by
  unfold decodeCommand at h
  split at h
  case h_1 row hrow =>
    cases h
    exact ⟨row, List.mem_of_find?_eq_some hrow, by simpa using List.find?_some hrow, rfl⟩
  case h_2 => cases h

theorem exec_command_effect {w : Word32} {i : Instr} {u t : State} (hdec : decodeCommand w = .ok i)
    (h : exec i u = .next t) : CommandEffect w u t := by
  obtain ⟨row, hrow, hmatch, rfl⟩ := decodeCommand_matches hdec
  simp only [commandRows, List.mem_cons, List.not_mem_nil, or_false] at hrow
  obtain rfl | rfl | rfl | rfl | rfl | rfl | rfl | rfl | rfl := hrow <;>
    dsimp only [exec, execOpenSession, execDeselect, execCrc16, execEncSDeselect, execEncSWtx, execIsWtx] at h
  · have hw : w = 0x00000001#32 := by
      calc w = w &&& BitVec.allOnes 32 := BitVec.and_allOnes.symm
        _ = 0x00000001#32 := hmatch
    exact acceptCommand_effect h fun hidle => .opened hidle hw
  · exact execExchange_effect h
  · exact acceptCommand_effect h fun hidle => .deselectAccepted hidle
  · exact acceptCommand_effect h fun hidle => .codecDone _ _ _ _ hidle
  · exact execEncI_effect h
  · exact acceptCommand_effect h fun hidle => .codecDone _ _ _ _ hidle
  · exact acceptCommand_effect h fun hidle => .codecDone _ _ _ _ hidle
  · exact acceptCommand_effect h fun hidle => .codecDone _ u.crcAcc _ _ hidle
  · exact execValidate_effect h

/-- A command word of no row, or one written while busy, is refused (R82, R150). -/
theorem notDecoded_command_effect (w : Word32) (u : State) : CommandEffect w u (notDecoded (.command w) u) := by
  dsimp only [notDecoded]
  split
  · exact .refused _
  · exact .refused _

/-! ### Outbound frames (R155, R156, R158, R167, R172) -/

/-- The write of `f` has been answered `a`: `f` stands in `txbuf`, and the event in `hist`. -/
def State.written (b : State) (f : Bytes) (a : Answer) : State :=
  { b with txbuf := f }.record (.write b.devAddr f) a

/-- What the step of `SEND_I` writes before the answer (R158). -/
def State.iBlockMade (u : State) : State :=
  { u.withCrc (iBlockPcb u.cfg u.tog :: u.pl) u.cfg.crcSeed with tog := !u.tog }

/-- What the step that sends a frame does to `u`. -/
inductive SendEffect (u : State) : State → Prop
  | issued (q : Request) (hq : u.dueRequest = some q) : SendEffect u (u.issue q)
  | overflow : SendEffect u (u.refuse .bufferBounds)
  | sessionWordSent (hfsm : u.fsm = .sessionRequested) (hfits : u.cfg.sreqWord.length ≤ u.cfg.maxFrame) :
      SendEffect u { u.written u.cfg.sreqWord .writeOk with sreq := u.sreq && u.cfg.sreqPersist, fsm := .sendI }
  | sessionWordFailed (hfsm : u.fsm = .sessionRequested) (hfits : u.cfg.sreqWord.length ≤ u.cfg.maxFrame) :
      SendEffect u ((u.written u.cfg.sreqWord .error).completeErr .transportError)
  | iBlockSent (hfsm : u.fsm = .sendI) (hfits : (iBlockFrame u.cfg u.tog u.pl).length ≤ u.cfg.maxFrame) :
      SendEffect u { u.iBlockMade.written (iBlockFrame u.cfg u.tog u.pl) .writeOk with fsm := .awaitingResponse }
  | iBlockFailed (hfsm : u.fsm = .sendI) (hfits : (iBlockFrame u.cfg u.tog u.pl).length ≤ u.cfg.maxFrame) :
      SendEffect u ((u.iBlockMade.written (iBlockFrame u.cfg u.tog u.pl) .error).completeErr .transportError)
  | wtxAckSent (hfsm : u.fsm = .wtxAck) (hfits : (encodeSWtx u.cfg u.wtxM).length ≤ u.cfg.maxFrame) :
      SendEffect u { (u.withCrc [u.cfg.pcbSWtx, u.wtxM] u.cfg.crcSeed).written (encodeSWtx u.cfg u.wtxM) .writeOk with
        fsm := .awaitingResponse }
  | wtxAckFailed (hfsm : u.fsm = .wtxAck) (hfits : (encodeSWtx u.cfg u.wtxM).length ≤ u.cfg.maxFrame) :
      SendEffect u (((u.withCrc [u.cfg.pcbSWtx, u.wtxM] u.cfg.crcSeed).written
        (encodeSWtx u.cfg u.wtxM) .error).completeErr .transportError)
  | deselectSent (hfsm : u.fsm = .deselecting) (hfits : (encodeSDeselect u.cfg).length ≤ u.cfg.maxFrame) :
      SendEffect u { (u.withCrc [u.cfg.pcbSDeselect] u.cfg.crcSeed).written (encodeSDeselect u.cfg) .writeOk with
        fsm := .deselAck }
  | deselectFailed (hfsm : u.fsm = .deselecting) (hfits : (encodeSDeselect u.cfg).length ≤ u.cfg.maxFrame) :
      SendEffect u (((u.withCrc [u.cfg.pcbSDeselect] u.cfg.crcSeed).written
        (encodeSDeselect u.cfg) .error).sessionReset.completeErr .transportError)

/-- A write step is answered, or issues the due request, or passes the capacity of `txbuf`. -/
theorem sendFrame_effect {f : Bytes} {before onError onOk : State → State} {u t : State}
    (h : sendFrame f before onError onOk u = .next t)
    (hdue : f.length ≤ u.cfg.maxFrame → u.dueRequest = some (.write u.devAddr f))
    (hok : f.length ≤ u.cfg.maxFrame →
      SendEffect u.portCleared (onOk ({ before u with txbuf := f }.record (.write u.devAddr f) .writeOk)))
    (herror : f.length ≤ u.cfg.maxFrame →
      SendEffect u.portCleared (onError ({ before u with txbuf := f }.record (.write u.devAddr f) .error))) :
    SendEffect u.portCleared t := by
  obtain ⟨hfits, -, rfl⟩ | ⟨hfits, -, rfl⟩ | ⟨hfits, -, -, rfl⟩ | ⟨-, rfl⟩ := sendFrame_next h
  · exact hok hfits
  · exact herror hfits
  · exact .issued _ (hdue hfits)
  · exact .overflow

theorem exec_dueSend_effect {u t : State} {i : Instr} (hi : u.dueSend = some i) (h : exec i u = .next t) :
    SendEffect u.portCleared t := by
  unfold State.dueSend at hi
  cases hfsm : u.fsm <;> simp only [hfsm, reduceCtorEq, Option.some.injEq] at hi <;> subst hi
  case sessionRequested =>
    obtain ⟨-, hsend⟩ := whenDue_next h
    exact sendFrame_effect hsend (fun _ => by simp [State.dueRequest, hfsm])
      (fun hfits => .sessionWordSent hfsm hfits) (fun hfits => .sessionWordFailed hfsm hfits)
  case sendI =>
    rw [exec_iBlockInstr] at h
    obtain ⟨-, hsend⟩ := whenDue_next h
    have hdue (hfits : (iBlockFrame u.cfg u.tog u.pl).length ≤ u.cfg.maxFrame) :
        u.dueRequest = some (.write u.devAddr (iBlockFrame u.cfg u.tog u.pl)) := by
      have henc : encodeI u.cfg u.tog u.pl = some (iBlockFrame u.cfg u.tog u.pl) :=
        encodeI_eq_some.mpr ⟨by simpa using hfits, rfl⟩
      simp [State.dueRequest, hfsm, henc]
    exact sendFrame_effect hsend hdue (fun hfits => .iBlockSent hfsm hfits) (fun hfits => .iBlockFailed hfsm hfits)
  case wtxAck =>
    obtain ⟨-, hsend⟩ := whenDue_next h
    exact sendFrame_effect hsend (fun _ => by simp [State.dueRequest, hfsm])
      (fun hfits => .wtxAckSent hfsm hfits) (fun hfits => .wtxAckFailed hfsm hfits)
  case deselecting =>
    obtain ⟨-, hsend⟩ := whenDue_next h
    exact sendFrame_effect hsend (fun _ => by simp [State.dueRequest, hfsm])
      (fun hfits => .deselectSent hfsm hfits) (fun hfits => .deselectFailed hfsm hfits)

/-! ### Inbound frames (R155, R160 to R165, R173) -/

/-- The read of `n` bytes has returned `r`: `r` stands in `rxbuf`, and the event in `hist`. -/
def State.gotBytes (u : State) (n : Nat) (r : Bytes) : State :=
  { u with rxbuf := r }.record (.read u.devAddr n) (.readOk r)

/-- What the step whose read returned bytes does to `u`. -/
inductive ReadEffect (u : State) : State → Prop
  | refused (q : Request) (why : RefusalReason) (hq : u.dueRequest = some q) : ReadEffect u ((u.issue q).refuse why)
  | wtx (r : Bytes) (hfsm : u.fsm = .awaitingResponse) (hfits : r.length ≤ u.rxcap) :
      ReadEffect u (handleWtx r (u.gotBytes u.cmdN.toNat r))
  | response (r : Bytes) (hfsm : u.fsm = .awaitingResponse) (hfits : r.length ≤ u.rxcap) :
      ReadEffect u (handleResponse r (u.gotBytes u.cmdN.toNat r))
  | deselAck (r : Bytes) (hfsm : u.fsm = .deselAck) (hfits : r.length ≤ u.rxcap) :
      ReadEffect u (handleDeselAck r (u.gotBytes u.cfg.deselAckLen r))

/-- A read step handles its bytes, or refuses them with the due request standing. -/
theorem receiveFrame_effect {n : Nat} {r : Bytes} {handle : State → State} {u t : State}
    (h : receiveFrame n r handle u = .next t) (hdue : u.dueRequest = some (.read u.devAddr n))
    (hhandle : r.length ≤ u.rxcap → ReadEffect u.portCleared (handle (u.gotBytes n r))) :
    ReadEffect u.portCleared t := by
  obtain ⟨-, hfits, rfl⟩ | ⟨-, rfl⟩ | ⟨-, -, rfl⟩ := receiveFrame_next h
  · exact hhandle hfits
  · exact .refused _ _ hdue
  · exact .refused _ _ hdue

theorem exec_decodeInbound_effect {u t : State} {r : Bytes} (hfsm : u.fsm = .awaitingResponse)
    (h : exec (decodeInbound r) u = .next t) : ReadEffect u.portCleared t := by
  have hdue : u.dueRequest = some (.read u.devAddr u.cmdN.toNat) := by simp [State.dueRequest, hfsm]
  unfold decodeInbound at h
  split at h
  · obtain ⟨-, hread⟩ := whenDue_next h
    exact receiveFrame_effect hread hdue fun hfits => .wtx _ hfsm hfits
  · obtain ⟨-, hread⟩ := whenDue_next h
    exact receiveFrame_effect hread hdue fun hfits => .response _ hfsm hfits

theorem exec_deselectAck_effect {u t : State} {r : Bytes} (hfsm : u.fsm = .deselAck)
    (h : exec (.deselectAck r) u = .next t) : ReadEffect u.portCleared t := by
  obtain ⟨-, hread⟩ := whenDue_next h
  exact receiveFrame_effect hread (by simp [State.dueRequest, hfsm]) fun hfits => .deselAck _ hfsm hfits

/-! ### Steps that run no instruction -/

/-- What the act `act` (or the Engine's turn, where there is none) does to `u` if it brings no instruction. -/
inductive PortEffect (act : Option Input) (u : State) : State → Prop
  | unchanged : PortEffect act u u
  | refused (why : RefusalReason) : PortEffect act u (u.refuse why)
  | issued (q : Request) (hq : u.dueRequest = some q) : PortEffect act u (u.issue q)
  | issuedRefused (q : Request) (why : RefusalReason) (hq : u.dueRequest = some q) :
      PortEffect act u ((u.issue q).refuse why)
  | reset (hact : act = some .reset) : PortEffect act u u.resetInput
  | hostRead (v : PortValue) : PortEffect act u { u with readout := some v }
  | dinWritten (b : Bytes) (hlen : b.length ≤ 65535) : PortEffect act u { u with din := b }
  | readFailed (n : Nat) (hn : u.readLength = some n) : PortEffect act u (readFailed n u)
  | waitDone (hfsm : u.fsm = .wtxWait) : PortEffect act u (waitDone u)

theorem engineTurn_effect {act : Option Input} {u t : State} (h : engineTurn u = some t) : PortEffect act u t := by
  obtain ⟨-, ⟨q, hq, rfl⟩ | ⟨-, -, rfl⟩⟩ := engineTurn_eq_some h
  · exact .issued q hq
  · exact .refused _

theorem hostRead_effect (act : Option Input) (reg : Nat) (u : State) : PortEffect act u (hostReadRegister reg u) := by
  obtain ⟨v, h⟩ | h := hostReadRegister_cases reg u
  · rw [h]; exact .hostRead v
  · rw [h]; exact .refused _

theorem hostWriteData_effect (act : Option Input) (reg : Nat) (v : PortValue) (u : State) :
    PortEffect act u (hostWriteData reg v u) := by
  obtain ⟨b, -, -, hlen, h⟩ | h := hostWriteData_cases reg v u
  · rw [h]; exact .dinWritten b hlen
  · rw [h]; exact .refused _

theorem unfitAnswer_effect (act : Option Input) (k : Nat) (a : Answer) (u : State) :
    PortEffect act u (unfitAnswer k a u) := by
  obtain ⟨-, h⟩ | ⟨-, q, hq, -, -, h⟩ | ⟨-, h⟩ := unfitAnswer_cases k a u
  · rw [h]; exact .unchanged
  · rw [h]; exact .issuedRefused q _ hq
  · rw [h]; exact .refused _

/-- A fitting answer that brings no frame answers a read or the wait: in a state that writes, the frame of that state
would be fetched. -/
theorem readLength_or_wtxWait_of_answer {s : State} {k : Nat} {a : Answer} {rest : List Input}
    (hin : s.inbox = .answer k a :: rest) (hfits : answerFits s k a = true) (hfetch : fetch s = none) :
    (∃ n, s.readLength = some n) ∨ (s.readLength = none ∧ s.fsm = .wtxWait) := by
  obtain ⟨-, q, hq, htakes⟩ := answerFits_iff.mp hfits
  cases hfsm : s.fsm
  case awaitingResponse => exact .inl ⟨s.cmdN.toNat, by simp [State.readLength, hfsm]⟩
  case deselAck => exact .inl ⟨s.cfg.deselAckLen, by simp [State.readLength, hfsm]⟩
  case wtxWait => exact .inr ⟨by simp [State.readLength, hfsm], rfl⟩
  case idle => simp [State.dueRequest, hfsm] at hq
  all_goals
    obtain ⟨f, hf, rfl⟩ : ∃ f, s.outgoing = some f ∧ q = .write s.devAddr f := by
      simpa [State.dueRequest, State.outgoing, hfsm, eq_comm] using hq
    cases a <;> simp [Request.takes, fetch, fetchSend, hin, hfits, hf] at htakes hfetch

theorem answeredWithoutFrame_effect {s : State} {k : Nat} {a : Answer} {rest : List Input}
    (hin : s.inbox = .answer k a :: rest) (hfits : answerFits s k a = true) (hfetch : fetch s = none) :
    PortEffect s.inbox.head? (passTurn s) (answeredWithoutFrame (serve s)) := by
  unfold answeredWithoutFrame
  obtain ⟨n, hn⟩ | ⟨hnone, hfsm⟩ := readLength_or_wtxWait_of_answer hin hfits hfetch
  · have hn' : (serve s).readLength = some n := hn
    rw [hn']
    exact .readFailed n hn
  · have hnone' : (serve s).readLength = none := hnone
    rw [hnone']
    exact .waitDone hfsm

theorem withoutInstruction_effect {s t : State} (hfetch : fetch s = none) (h : withoutInstruction s = .next t) :
    PortEffect s.inbox.head? (passTurn s) t := by
  unfold withoutInstruction at h
  split at h
  case h_1 hin =>
    have hpass : passTurn s = s := by rw [passTurn, hin, List.tail_nil, ← hin]
    split at h
    case h_1 hturn => cases h; exact engineTurn_effect (hpass.symm ▸ hturn)
    case h_2 => cases h
  case h_2 =>
    split at h
    case h_1 hturn => cases h; exact engineTurn_effect hturn
    case h_2 => cases h; exact .unchanged
  case h_3 hin => cases h; exact .reset (by simp [hin])
  case h_4 reg _ _ => cases h; exact hostRead_effect _ reg _
  case h_5 reg v _ _ => cases h; exact hostWriteData_effect _ reg v _
  case h_6 k a rest hin =>
    split at h
    case isTrue hfits => cases h; exact answeredWithoutFrame_effect hin hfits hfetch
    case isFalse => cases h; exact unfitAnswer_effect _ k a _

/-! ### The step -/

/-- Everything a step from `s` that answers a next state can have done. A command or a frame starts from `s` with the
act taken and the port empty. -/
inductive StepEffect (s : State) : State → Prop
  | badConfiguration : StepEffect s (s.refuse .badConfiguration)
  | command {t : State} (w : Word32) (hact : s.inbox.head? = some (.hostWrite 0 (.word32 w)))
      (h : CommandEffect w (passTurn s).portCleared t) : StepEffect s t
  | send {t : State} (h : SendEffect (passTurn s).portCleared t) : StepEffect s t
  | read {t : State} (h : ReadEffect (passTurn s).portCleared t) : StepEffect s t
  | port {t : State} (h : PortEffect s.inbox.head? (passTurn s) t) : StepEffect s t

/-- A fetched command word is the Host's write of `CMD` (R80). -/
theorem fetch_eq_command {s : State} {w : Word32} (h : fetch s = some (.command w)) :
    ∃ rest, s.inbox = .hostWrite regCmd (.word32 w) :: rest := by
  have hsend : fetchSend s ≠ some (.command w) := by simp [fetchSend_eq_some]
  unfold fetch at h
  split at h
  case h_5 reg v rest hin =>
    cases v <;> simp only [reduceCtorEq] at h
    case word32 w' =>
      split at h
      case isTrue hreg => cases h; exact ⟨rest, by rw [hin, hreg]⟩
      case isFalse => cases h
  case h_6 k a rest hin =>
    split at h
    case isTrue => cases a <;> simp [hsend] at h
    case isFalse => cases h
  all_goals simp [hsend] at h

theorem step_effect {s t : State} (h : step s = .next t) : StepEffect s t := by
  cases hc : configValid s.cfg with
  | false =>
    rw [step_of_not_configValid hc] at h
    cases h
    exact .badConfiguration
  | true =>
    rw [step_of_configValid hc] at h
    cases hx : fetch s with
    | none =>
      rw [hx] at h
      exact .port (withoutInstruction_effect hx h)
    | some x =>
      rw [hx] at h
      dsimp only at h
      obtain ⟨w, rfl⟩ | ⟨f, hf, rfl, -⟩ | ⟨r, n, hn, rfl⟩ := fetch_cases hx
      · obtain ⟨rest, hin⟩ := fetch_eq_command hx
        have hserve : serve s = (passTurn s).portCleared := by simp [serve, passTurn, State.portCleared, hin]
        refine .command w (by rw [hin]; rfl) (hserve ▸ ?_)
        split at h
        case h_1 i hi => exact exec_command_effect hi h
        case h_2 => cases h; exact notDecoded_command_effect w _
      · obtain ⟨i, hdue, hdec⟩ := decode_outgoing hc hf
        rw [hdec] at h
        exact .send (exec_dueSend_effect (u := serve s) hdue h)
      · unfold State.readLength at hn
        cases hfsm : s.fsm <;> simp only [hfsm, reduceCtorEq] at hn
        case awaitingResponse =>
          rw [hfsm] at h
          exact .read (exec_decodeInbound_effect (u := serve s) hfsm h)
        case deselAck =>
          rw [hfsm] at h
          exact .read (exec_deselectAck_effect (u := serve s) hfsm h)

end Sys2Proof.Machine
end

section
/-!
SUPPORT. The invariant through the operations of a step. A step that answers its request or accepts a command leaves
nothing outstanding (`Settled`); then only the result and the latch of the new Engine state are left to show.
-/

namespace Sys2Proof.Safety

open Sys2Proof.Machine

/-! ### States with nothing outstanding -/

/-- What the invariant says whatever the Engine state and the result are, with no request outstanding. -/
structure Settled (v : State) : Prop where
  config : configValid v.cfg = true
  address : v.devAddr = v.cfg.devAddr
  buffers : BuffersFit v
  ceilings : WtxWithinBounds v
  port : v.answer = none ∧ v.pending = none
  mark : v.refused = true ↔ v.refusals ≠ []

theorem Settled.machineInv {v : State} (h : Settled v) (hresult : ResultLegal v) (hlatch : LatchFits v) :
    MachineInv v :=
  have ⟨hanswer, hpending⟩ := h.port
  ⟨h.config, h.address, h.buffers, h.ceilings, hresult, hlatch, ⟨hanswer, .inl hpending, fun _ => hpending⟩, h.mark⟩

theorem MachineInv.port_of_idle {u : State} (h : MachineInv u) (hidle : u.fsm = .idle) :
    u.answer = none ∧ u.pending = none :=
  have ⟨hanswer, _, hpending⟩ := h.request
  ⟨hanswer, hpending hidle⟩

theorem MachineInv.settled_accepted {u : State} (h : MachineInv u) (hidle : u.fsm = .idle) (op : BitVec 4)
    (c : Word16) : Settled { u with done := false, cmdOp := op, crcAcc := c } :=
  ⟨h.config, h.address, h.buffers, h.ceilings, h.port_of_idle hidle, h.mark⟩

/-- An answered write leaves nothing outstanding, whatever the step wrote to `crc_acc` and `tog` before it. -/
theorem MachineInv.settled_written {u : State} (h : MachineInv u) {f : Bytes} (hfits : f.length ≤ u.cfg.maxFrame)
    (c : Word16) (g : Bool) (a : Answer) : Settled ({ u with crcAcc := c, tog := g }.written f a) :=
  have ⟨_, hothers⟩ := h.buffers
  ⟨h.config, h.address, ⟨hfits, hothers⟩, h.ceilings, ⟨rfl, rfl⟩, h.mark⟩

theorem MachineInv.settled_gotBytes {u : State} (h : MachineInv u) (n : Nat) {r : Bytes} (hfits : r.length ≤ u.rxcap) :
    Settled (u.gotBytes n r) :=
  have ⟨htx, _, hothers⟩ := h.buffers
  ⟨h.config, h.address, ⟨htx, hfits, hothers⟩, h.ceilings, ⟨rfl, rfl⟩, h.mark⟩

theorem MachineInv.settled_record {u : State} (h : MachineInv u) (q : Request) (a : Answer) : Settled (u.record q a) :=
  ⟨h.config, h.address, h.buffers, h.ceilings, ⟨rfl, rfl⟩, h.mark⟩

theorem Settled.withCrcAcc {v : State} (h : Settled v) (c : Word16) : Settled { v with crcAcc := c } :=
  ⟨h.config, h.address, h.buffers, h.ceilings, h.port, h.mark⟩

theorem Settled.crcOfAccept {v : State} (h : Settled v) (f : Bytes) : Settled (v.crcOfAccept f) := by
  obtain ⟨c, hc⟩ := crcOfAccept_eq v f
  rw [hc]
  exact h.withCrcAcc c

theorem Settled.sessionReset {v : State} (h : Settled v) : Settled v.sessionReset :=
  ⟨h.config, h.address, h.buffers, h.ceilings, h.port, h.mark⟩

/-! ### Completion (R205) -/

theorem latchFits_of_idle {v : State} (h : v.fsm = .idle) : LatchFits v := by
  simp [LatchFits, h, inExchange, inDeselect]

theorem okRow_mem : (0#3, 0#3) ∈ resultRows := by decide

theorem Settled.completeOk {v : State} (h : Settled v) (x : Bytes) (w : Word16) : MachineInv (v.completeOk x w) :=
  Settled.machineInv ⟨h.config, h.address, h.buffers, h.ceilings, h.port, h.mark⟩ okRow_mem (latchFits_of_idle rfl)

/-- A failing step completes with a row of R201. -/
theorem Settled.completeErr {v : State} (h : Settled v) {k : ErrorKind} {p : Fsm} (hfsm : v.fsm = p)
    (hrow : (errorCode k, fsmCode p) ∈ resultRows) : MachineInv (v.completeErr k) :=
  Settled.machineInv ⟨h.config, h.address, h.buffers, h.ceilings, h.port, h.mark⟩ (by subst hfsm; exact hrow)
    (latchFits_of_idle rfl)

/-! ### The latch of a command in progress (R150, R153, R171) -/

/-- What an EXCHANGE in progress has latched. -/
abbrev ExchangeLatched (v : State) : Prop :=
  v.cmdOp = 0x2#4 ∧ 3 ≤ v.cmdN.toNat ∧ v.cmdN.toNat ≤ v.rxcap ∧ v.pl.length + 3 ≤ v.cfg.maxFrame

theorem latchFits_of_exchange {v : State} (hfsm : inExchange v.fsm = true) (hdone : v.done = false)
    (hlatched : ExchangeLatched v) (hflag : v.fsm = .sessionRequested → v.sreq = true)
    (hcount : v.fsm = .wtxWait ∨ v.fsm = .wtxAck → 1 ≤ v.wtxCnt) : LatchFits v := by
  refine ⟨fun _ => hdone, fun _ => hlatched, fun hdeselect => ?_, hflag, hcount⟩
  cases hp : v.fsm <;> simp [hp, inExchange, inDeselect] at hfsm hdeselect

theorem latchFits_of_deselect {v : State} (hfsm : inDeselect v.fsm = true) (hdone : v.done = false)
    (hlatched : v.cmdOp = 0x3#4 ∧ v.cfg.deselAckLen ≤ v.rxcap) : LatchFits v := by
  cases hp : v.fsm <;> simp [hp, inDeselect] at hfsm
  all_goals simp [LatchFits, hp, hdone, hlatched, inExchange, inDeselect]

/-! ### Requests and reset -/

theorem machineInv_portCleared {u : State} (h : MachineInv u) : MachineInv u.portCleared :=
  have ⟨_, hpending⟩ := h.request
  ⟨h.config, h.address, h.buffers, h.ceilings, h.result, h.latch, ⟨rfl, hpending⟩, h.mark⟩

theorem machineInv_withDin {u : State} (h : MachineInv u) {b : Bytes} (hlen : b.length ≤ 65535) :
    MachineInv { u with din := b } := by
  obtain ⟨htx, hrx, hcap, hpl, -⟩ := h.buffers
  exact ⟨h.config, h.address, ⟨htx, hrx, hcap, hpl, hlen⟩, h.ceilings, h.result, h.latch, h.request, h.mark⟩

theorem machineInv_issue {u : State} (h : MachineInv u) {q : Request} (hq : u.dueRequest = some q) :
    MachineInv (u.issue q) := by
  have hbusy : u.fsm ≠ .idle := fun hidle => by simp [State.dueRequest, hidle] at hq
  exact ⟨h.config, h.address, h.buffers, h.ceilings, h.result, h.latch,
    ⟨rfl, .inr hq.symm, fun hidle => absurd hidle hbusy⟩, h.mark⟩

/-- The WTX counters at 0 are within every ceiling (R152, R153). -/
theorem boundAdmits_zero (b : Bound) : boundAdmits b 0 = true := by
  cases b <;> simp [boundAdmits]

theorem machineInv_resetInput {u : State} (h : MachineInv u) : MachineInv u.resetInput :=
  Settled.machineInv
    ⟨h.config, rfl, by simp [BuffersFit], ⟨boundAdmits_zero _, boundAdmits_zero _⟩, ⟨rfl, rfl⟩, h.mark⟩ okRow_mem
    (latchFits_of_idle rfl)

/-! ### The effects of a step -/

theorem machineInv_commandEffect {w : Word32} {u t : State} (hu : MachineInv u) (h : CommandEffect w u t) :
    MachineInv t := by
  cases h with
  | refused why => exact machineInv_refuse hu why
  | opened hidle =>
    obtain ⟨-, -, -, -, hdin⟩ := hu.buffers
    refine Settled.completeOk ?_ _ _
    exact ⟨hu.config, hu.address, by simp [BuffersFit, hdin], ⟨boundAdmits_zero _, boundAdmits_zero _⟩,
      hu.port_of_idle hidle, hu.mark⟩
  | exchangeAccepted n hidle hn hfits =>
    obtain ⟨htx, hrx, hcap, -, hdin⟩ := hu.buffers
    refine Settled.machineInv ⟨hu.config, hu.address, ?buffers, ⟨boundAdmits_zero _, boundAdmits_zero _⟩,
      hu.port_of_idle hidle, hu.mark⟩ hu.result ?latch
    case buffers =>
      have hn' := n.isLt
      exact ⟨htx, by dsimp only; omega, by dsimp only; omega, hdin, hdin⟩
    case latch =>
      have hlatched : 3 ≤ n.toNat ∧ n.toNat ≤ max u.rxcap n.toNat := ⟨hn, Nat.le_max_right _ _⟩
      cases hflag : u.sreq
      · exact latchFits_of_exchange rfl rfl ⟨rfl, hlatched.1, hlatched.2, hfits⟩ (by simp) (by simp)
      · exact latchFits_of_exchange rfl rfl ⟨rfl, hlatched.1, hlatched.2, hfits⟩ (fun _ => rfl) (by simp)
  | deselectAccepted hidle =>
    obtain ⟨htx, hrx, hcap, hpl, hdin⟩ := hu.buffers
    refine Settled.machineInv ⟨hu.config, hu.address, ?buffers, hu.ceilings, hu.port_of_idle hidle, hu.mark⟩
      hu.result (latchFits_of_deselect rfl rfl ⟨rfl, Nat.le_max_right _ _⟩)
    exact ⟨htx, by dsimp only; omega, by dsimp only; omega, hpl, hdin⟩
  | codecDone op c x v hidle =>
    exact (hu.settled_accepted hidle op c).completeOk x v
  | payloadTooLarge op hidle =>
    exact (hu.settled_accepted hidle op u.crcAcc).completeErr hidle (by decide)

/-- The frame of an EXCHANGE in progress is sent, and the Engine goes on to `p`. -/
theorem MachineInv.exchange_sent {u : State} (h : MachineInv u) (hfrom : inExchange u.fsm = true) {f : Bytes}
    (hfits : f.length ≤ u.cfg.maxFrame) {p : Fsm} (hp : p = .sendI ∨ p = .awaitingResponse) (c : Word16)
    (g flag : Bool) :
    MachineInv { ({ u with crcAcc := c, tog := g }.written f .writeOk) with sreq := flag, fsm := p } := by
  obtain ⟨hconfig, haddress, hbuffers, hceilings, hport, hmark⟩ := h.settled_written hfits c g .writeOk
  refine Settled.machineInv ⟨hconfig, haddress, hbuffers, hceilings, hport, hmark⟩ h.result ?_
  have hbusy : u.fsm ≠ .idle := fun hidle => by simp [hidle, inExchange] at hfrom
  obtain ⟨hdone, hexchange, -⟩ := h.latch
  obtain rfl | rfl := hp
  · exact latchFits_of_exchange rfl (hdone hbusy) (hexchange hfrom) (by simp) (by simp)
  · exact latchFits_of_exchange rfl (hdone hbusy) (hexchange hfrom) (by simp) (by simp)

theorem machineInv_sendEffect {u t : State} (hu : MachineInv u) (h : SendEffect u t) : MachineInv t := by
  cases h with
  | issued q hq => exact machineInv_issue hu hq
  | overflow => exact machineInv_refuse hu _
  | sessionWordSent hfsm hfits => exact hu.exchange_sent (hfsm ▸ rfl) hfits (.inl rfl) _ _ _
  | sessionWordFailed hfsm hfits => exact (hu.settled_written hfits _ _ _).completeErr hfsm (by decide)
  | iBlockSent hfsm hfits => exact hu.exchange_sent (hfsm ▸ rfl) hfits (.inr rfl) _ _ _
  | iBlockFailed hfsm hfits => exact (hu.settled_written hfits _ _ _).completeErr hfsm (by decide)
  | wtxAckSent hfsm hfits => exact hu.exchange_sent (hfsm ▸ rfl) hfits (.inr rfl) _ _ _
  | wtxAckFailed hfsm hfits => exact (hu.settled_written hfits _ _ _).completeErr hfsm (by decide)
  | deselectSent hfsm hfits =>
    have hfrom : inDeselect u.fsm = true := hfsm ▸ rfl
    have hbusy : u.fsm ≠ .idle := fun hidle => by simp [hidle] at hfsm
    obtain ⟨hdone, -, hdeselect, -⟩ := hu.latch
    obtain ⟨hconfig, haddress, hbuffers, hceilings, hport, hmark⟩ :=
      hu.settled_written hfits (u.withCrc [u.cfg.pcbSDeselect] u.cfg.crcSeed).crcAcc u.tog .writeOk
    exact Settled.machineInv ⟨hconfig, haddress, hbuffers, hceilings, hport, hmark⟩ hu.result
      (latchFits_of_deselect rfl (hdone hbusy) (hdeselect hfrom))
  | deselectFailed hfsm hfits => exact (hu.settled_written hfits _ _ _).sessionReset.completeErr hfsm (by decide)

/-! ### Frames read -/

/-- R162, R163: both ceilings are tested before the counters grow. -/
theorem machineInv_serveWtx {v : State} (h : Settled v) (hfsm : v.fsm = .awaitingResponse) (hresult : ResultLegal v)
    (hlatch : LatchFits v) (m : Byte) : MachineInv (serveWtx m v) := by
  obtain ⟨hwithin, heq⟩ | ⟨-, heq⟩ := serveWtx_cases m v
  · rw [heq]
    obtain ⟨hcount, htotal⟩ := Bool.and_eq_true_iff.mp hwithin
    obtain ⟨hdone, hexchange, -⟩ := hlatch
    exact Settled.machineInv ⟨h.config, h.address, h.buffers, ⟨hcount, htotal⟩, h.port, h.mark⟩ hresult
      (latchFits_of_exchange rfl (hdone (by simp [hfsm])) (hexchange (by simp [hfsm, inExchange])) (by simp)
        fun _ => Nat.le_add_left 1 _)
  · rw [heq]
    exact h.completeErr hfsm (by decide)

theorem machineInv_handleWtx {v : State} (h : Settled v) (hfsm : v.fsm = .awaitingResponse) (hresult : ResultLegal v)
    (hlatch : LatchFits v) (r : Bytes) : MachineInv (handleWtx r v) := by
  obtain heq | ⟨b0, m, b2, b3, extra, -, ⟨-, heq⟩ | ⟨-, heq⟩⟩ := handleWtx_cases r v
  · rw [heq]
    exact h.completeErr hfsm (by decide)
  · obtain ⟨c, hc⟩ := crcOfAccept_eq v [b0, m, b2, b3]
    rw [heq, hc]
    exact machineInv_serveWtx (h.withCrcAcc c) hfsm hresult hlatch m
  · rw [heq]
    exact (h.crcOfAccept _).completeErr (by simpa using hfsm) (by decide)

theorem machineInv_handleResponse {v : State} (h : Settled v) (hfsm : v.fsm = .awaitingResponse) (r : Bytes) :
    MachineInv (handleResponse r v) := by
  obtain ⟨-, heq⟩ | ⟨-, -, heq⟩ | ⟨-, -, heq⟩ := handleResponse_cases r v
  · rw [heq]
    exact h.completeErr hfsm (by decide)
  · rw [heq]
    exact (h.crcOfAccept r).completeOk _ _
  · rw [heq]
    exact (h.crcOfAccept r).completeErr (by simpa using hfsm) (by decide)

theorem machineInv_handleDeselAck {v : State} (h : Settled v) (hfsm : v.fsm = .deselAck) (r : Bytes) :
    MachineInv (handleDeselAck r v) := by
  obtain ⟨-, heq⟩ | ⟨-, -, heq⟩ | ⟨-, -, heq⟩ := handleDeselAck_cases r v
  · rw [heq]
    exact h.sessionReset.completeErr (by simpa using hfsm) (by decide)
  · rw [heq]
    exact (h.crcOfAccept r).sessionReset.completeOk _ _
  · rw [heq]
    exact (h.crcOfAccept r).sessionReset.completeErr (by simpa using hfsm) (by decide)

theorem machineInv_readEffect {u t : State} (hu : MachineInv u) (h : ReadEffect u t) : MachineInv t := by
  cases h with
  | refused q why hq => exact machineInv_refuse (machineInv_issue hu hq) why
  | wtx r hfsm hfits => exact machineInv_handleWtx (hu.settled_gotBytes _ hfits) hfsm hu.result hu.latch r
  | response r hfsm hfits => exact machineInv_handleResponse (hu.settled_gotBytes _ hfits) hfsm r
  | deselAck r hfsm hfits => exact machineInv_handleDeselAck (hu.settled_gotBytes _ hfits) hfsm r

/-! ### Steps that run no instruction -/

theorem machineInv_readFailed {u : State} (h : MachineInv u) {n : Nat} (hn : u.readLength = some n) :
    MachineInv (readFailed n u) := by
  have hsettled := h.settled_record (.read u.devAddr n) .error
  unfold readFailed
  dsimp only
  split
  case isTrue hfsm => exact hsettled.sessionReset.completeErr hfsm (by decide)
  case isFalse hother =>
    have hfsm : u.fsm = .awaitingResponse := by
      cases hp : u.fsm <;> simp [State.readLength, hp] at hn hother ⊢
    exact hsettled.completeErr hfsm (by decide)

theorem machineInv_waitDone {u : State} (h : MachineInv u) (hfsm : u.fsm = .wtxWait) : MachineInv (waitDone u) := by
  have hfrom : inExchange u.fsm = true := hfsm ▸ rfl
  obtain ⟨hdone, hexchange, -, -, hcount⟩ := h.latch
  exact Settled.machineInv ⟨h.config, h.address, h.buffers, h.ceilings, ⟨rfl, rfl⟩, h.mark⟩ h.result
    (latchFits_of_exchange rfl (hdone (by simp [hfsm])) (hexchange hfrom) (by simp [waitDone])
      fun _ => hcount (.inl hfsm))

theorem machineInv_portEffect {act : Option Input} {u t : State} (hu : MachineInv u) (h : PortEffect act u t) :
    MachineInv t := by
  cases h with
  | unchanged => exact hu
  | refused why => exact machineInv_refuse hu why
  | issued q hq => exact machineInv_issue hu hq
  | issuedRefused q why hq => exact machineInv_refuse (machineInv_issue hu hq) why
  | reset => exact machineInv_resetInput hu
  | hostRead v => exact machineInv_withReadout hu (some v)
  | dinWritten b hlen => exact machineInv_withDin hu hlen
  | readFailed n hn => exact machineInv_readFailed hu hn
  | waitDone hfsm => exact machineInv_waitDone hu hfsm

/-! ### The step -/

theorem machineInv_stepEffect {s t : State} (hs : MachineInv s) (h : StepEffect s t) : MachineInv t := by
  have htaken : MachineInv (passTurn s) := machineInv_withInbox hs _
  cases h with
  | badConfiguration => exact machineInv_refuse hs _
  | command w _ h => exact machineInv_commandEffect (machineInv_portCleared htaken) h
  | send h => exact machineInv_sendEffect (machineInv_portCleared htaken) h
  | read h => exact machineInv_readEffect (machineInv_portCleared htaken) h
  | port h => exact machineInv_portEffect htaken h

end Sys2Proof.Safety
end


section
/-!
SUPPORT. What a step leaves of `hist`, of the refusal mark and of the configuration (spec/10_state.md R41, R42,
spec/20_memory.md R58), and what it does to the session registers `tog` and `sreq` (R23, R24): each effect of a step in
turn.
-/

namespace Sys2Proof.Machine

/-! ### Events recorded -/

/-- `t` comes after `s` with the events `es`: nothing before them is lost, a mark once set stays, and the configuration
is the same. -/
structure Records (s t : State) (es : List Event) : Prop where
  hist : t.hist = s.hist ++ es
  mark : s.refused = true → t.refused = true
  config : t.cfg = s.cfg

theorem Records.then_none {s v t : State} {es : List Event} (h : Records s v es) (h' : Records v t []) :
    Records s t es :=
  ⟨by rw [h'.hist, h.hist, List.append_nil], fun hs => h'.mark (h.mark hs), h'.config.trans h.config⟩

theorem exists_records_of_hist_eq {s t : State} (hhist : t.hist = s.hist) (hmark : s.refused = true → t.refused = true)
    (hcfg : t.cfg = s.cfg) : ∃ es, es.length ≤ 1 ∧ Records s t es :=
  ⟨[], Nat.zero_le 1, by rw [hhist, List.append_nil], hmark, hcfg⟩

/-! ### What is done with a read frame -/

/-- R161 to R163 touch neither `hist` nor the session. -/
theorem handleWtx_frame (r : Bytes) (v : State) :
    Records v (handleWtx r v) [] ∧ (handleWtx r v).tog = v.tog ∧ (handleWtx r v).sreq = v.sreq := by
  obtain heq | ⟨b0, m, b2, b3, extra, -, ⟨-, heq⟩ | ⟨-, heq⟩⟩ := handleWtx_cases r v
  · rw [heq]
    exact ⟨⟨by simp, by simp, by simp⟩, by simp, by simp⟩
  · rw [heq]
    obtain ⟨-, hserve⟩ | ⟨-, hserve⟩ := serveWtx_cases m (v.crcOfAccept [b0, m, b2, b3])
    · rw [hserve]
      exact ⟨⟨by simp, by simp, by simp⟩, by simp, by simp⟩
    · rw [hserve]
      exact ⟨⟨by simp, by simp, by simp⟩, by simp, by simp⟩
  · rw [heq]
    exact ⟨⟨by simp, by simp, by simp⟩, by simp, by simp⟩

/-- R164, R165 touch neither `hist` nor the session. -/
theorem handleResponse_frame (r : Bytes) (v : State) :
    Records v (handleResponse r v) [] ∧ (handleResponse r v).tog = v.tog ∧ (handleResponse r v).sreq = v.sreq := by
  obtain ⟨-, heq⟩ | ⟨-, -, heq⟩ | ⟨-, -, heq⟩ := handleResponse_cases r v
  all_goals
    rw [heq]
    exact ⟨⟨by simp, by simp, by simp⟩, by simp, by simp⟩

/-- R173, R174: every acknowledgement completes the command and resets the session. -/
theorem handleDeselAck_frame (r : Bytes) (v : State) :
    Records v (handleDeselAck r v) [] ∧ (handleDeselAck r v).tog = false ∧ (handleDeselAck r v).sreq = true ∧
      (handleDeselAck r v).fsm = .idle := by
  obtain ⟨-, heq⟩ | ⟨-, -, heq⟩ | ⟨-, -, heq⟩ := handleDeselAck_cases r v
  all_goals
    rw [heq]
    exact ⟨⟨by simp, by simp, by simp⟩, by simp, by simp, by simp⟩

/-- A failed read completes the command, and resets the session in `DESEL_ACK` (R160, R173, R174). -/
theorem readFailed_cases (n : Nat) (u : State) :
    (u.fsm = .deselAck ∧
      readFailed n u = (u.record (.read u.devAddr n) .error).sessionReset.completeErr .transportError) ∨
    (u.fsm ≠ .deselAck ∧ readFailed n u = (u.record (.read u.devAddr n) .error).completeErr .transportError) := by
  by_cases h : u.fsm = .deselAck
  · exact .inl ⟨h, if_pos h⟩
  · exact .inr ⟨h, if_neg h⟩

/-! ### `hist`, the mark and the configuration -/

theorem CommandEffect.records {w : Word32} {u t : State} (h : CommandEffect w u t) : Records u t [] := by
  cases h with
  | refused why => exact ⟨(List.append_nil _).symm, fun _ => rfl, rfl⟩
  | _ => exact ⟨(List.append_nil _).symm, id, rfl⟩

theorem SendEffect.records {u t : State} (h : SendEffect u t) : ∃ es, es.length ≤ 1 ∧ Records u t es := by
  cases h with
  | issued q hq => exact exists_records_of_hist_eq rfl id rfl
  | overflow => exact exists_records_of_hist_eq rfl (fun _ => rfl) rfl
  | _ => exact ⟨[_], Nat.le_refl 1, rfl, id, rfl⟩

theorem gotBytes_records (u : State) (n : Nat) (r : Bytes) :
    Records u (u.gotBytes n r) [⟨.read u.devAddr n, some (.readOk r)⟩] := ⟨rfl, id, rfl⟩

theorem ReadEffect.records {u t : State} (h : ReadEffect u t) : ∃ es, es.length ≤ 1 ∧ Records u t es := by
  cases h with
  | refused q why hq => exact exists_records_of_hist_eq rfl (fun _ => rfl) rfl
  | wtx r => exact ⟨[_], Nat.le_refl 1, (gotBytes_records u _ r).then_none (handleWtx_frame r _).1⟩
  | response r => exact ⟨[_], Nat.le_refl 1, (gotBytes_records u _ r).then_none (handleResponse_frame r _).1⟩
  | deselAck r => exact ⟨[_], Nat.le_refl 1, (gotBytes_records u _ r).then_none (handleDeselAck_frame r _).1⟩

theorem PortEffect.records {act : Option Input} {u t : State} (h : PortEffect act u t) :
    ∃ es, es.length ≤ 1 ∧ Records u t es := by
  cases h with
  | refused why => exact exists_records_of_hist_eq rfl (fun _ => rfl) rfl
  | issuedRefused q why hq => exact exists_records_of_hist_eq rfl (fun _ => rfl) rfl
  | reset => exact ⟨_, by cases u.pending <;> simp, u.resetInput_hist, id, rfl⟩
  | readFailed n =>
    obtain ⟨-, heq⟩ | ⟨-, heq⟩ := readFailed_cases n u
    · rw [heq]
      exact ⟨[_], Nat.le_refl 1, rfl, id, rfl⟩
    · rw [heq]
      exact ⟨[_], Nat.le_refl 1, rfl, id, rfl⟩
  | waitDone => exact ⟨[_], Nat.le_refl 1, rfl, id, rfl⟩
  | _ => exact exists_records_of_hist_eq rfl id rfl

theorem StepEffect.records {s t : State} (h : StepEffect s t) : ∃ es, es.length ≤ 1 ∧ Records s t es := by
  cases h with
  | badConfiguration => exact exists_records_of_hist_eq rfl (fun _ => rfl) rfl
  | command w _ h =>
    obtain ⟨hhist, hmark, hcfg⟩ := h.records
    exact ⟨[], Nat.zero_le 1, hhist, hmark, hcfg⟩
  | send h =>
    obtain ⟨es, hlen, hhist, hmark, hcfg⟩ := h.records
    exact ⟨es, hlen, hhist, hmark, hcfg⟩
  | read h =>
    obtain ⟨es, hlen, hhist, hmark, hcfg⟩ := h.records
    exact ⟨es, hlen, hhist, hmark, hcfg⟩
  | port h =>
    obtain ⟨es, hlen, hhist, hmark, hcfg⟩ := h.records
    exact ⟨es, hlen, hhist, hmark, hcfg⟩

/-! ### The toggle (R23) -/

theorem CommandEffect.toggle {w : Word32} {u t : State} (h : CommandEffect w u t) :
    t.tog = u.tog ∨ (t.tog = false ∧ t.fsm = .idle ∧ u.fsm = .idle ∧ w = 0x00000001#32) := by
  cases h with
  | opened hidle hw => exact .inr ⟨rfl, rfl, hidle, hw⟩
  | _ => exact .inl rfl

theorem SendEffect.toggle {u t : State} (h : SendEffect u t) :
    t.tog = u.tog ∨ u.fsm = .sendI ∨ (t.tog = false ∧ t.fsm = .idle ∧ u.fsm = .deselecting) := by
  cases h with
  | iBlockSent hfsm => exact .inr (.inl hfsm)
  | iBlockFailed hfsm => exact .inr (.inl hfsm)
  | deselectFailed hfsm => exact .inr (.inr ⟨rfl, rfl, hfsm⟩)
  | _ => exact .inl rfl

theorem ReadEffect.toggle {u t : State} (h : ReadEffect u t) :
    t.tog = u.tog ∨ (t.tog = false ∧ t.fsm = .idle ∧ u.fsm = .deselAck) := by
  cases h with
  | refused q why hq => exact .inl rfl
  | wtx r =>
    obtain ⟨-, htog, -⟩ := handleWtx_frame r (u.gotBytes u.cmdN.toNat r)
    exact .inl htog
  | response r =>
    obtain ⟨-, htog, -⟩ := handleResponse_frame r (u.gotBytes u.cmdN.toNat r)
    exact .inl htog
  | deselAck r hfsm =>
    obtain ⟨-, htog, -, hidle⟩ := handleDeselAck_frame r (u.gotBytes u.cfg.deselAckLen r)
    exact .inr ⟨htog, hidle, hfsm⟩

theorem PortEffect.toggle {act : Option Input} {u t : State} (h : PortEffect act u t) :
    t.tog = u.tog ∨ (t.tog = false ∧ t.fsm = .idle ∧ (u.fsm = .deselAck ∨ act = some .reset)) := by
  cases h with
  | reset hact => exact .inr ⟨rfl, rfl, .inr hact⟩
  | readFailed n =>
    obtain ⟨hfsm, heq⟩ | ⟨-, heq⟩ := readFailed_cases n u
    · rw [heq]
      exact .inr ⟨rfl, rfl, .inl hfsm⟩
    · rw [heq]
      exact .inl rfl
  | _ => exact .inl rfl

/-! ### The session flag (R24) -/

theorem CommandEffect.flag_kept {w : Word32} {u t : State} (h : CommandEffect w u t) (hu : u.sreq = true) :
    t.sreq = true := by
  cases h with
  | opened => rfl
  | _ => exact hu

theorem ReadEffect.flag_kept {u t : State} (h : ReadEffect u t) (hu : u.sreq = true) : t.sreq = true := by
  cases h with
  | refused q why hq => exact hu
  | wtx r =>
    obtain ⟨-, -, hflag⟩ := handleWtx_frame r (u.gotBytes u.cmdN.toNat r)
    exact hflag.trans hu
  | response r =>
    obtain ⟨-, -, hflag⟩ := handleResponse_frame r (u.gotBytes u.cmdN.toNat r)
    exact hflag.trans hu
  | deselAck r =>
    obtain ⟨-, -, hflag, -⟩ := handleDeselAck_frame r (u.gotBytes u.cfg.deselAckLen r)
    exact hflag

theorem PortEffect.flag_kept {act : Option Input} {u t : State} (h : PortEffect act u t) (hu : u.sreq = true) :
    t.sreq = true := by
  cases h with
  | reset => rfl
  | readFailed n =>
    obtain ⟨-, heq⟩ | ⟨-, heq⟩ := readFailed_cases n u
    · rw [heq]
      rfl
    · rw [heq]
      exact hu
  | _ => exact hu

/-- R156: only the write of the session-request word, answered `OK`, can clear the flag. -/
theorem SendEffect.flag_cleared {u t : State} (h : SendEffect u t) (hu : u.sreq = true) (ht : t.sreq = false) :
    u.fsm = .sessionRequested ∧ u.cfg.sreqPersist = false ∧ t.fsm = .sendI ∧
      t.hist = u.hist ++ [⟨.write u.devAddr u.cfg.sreqWord, some .writeOk⟩] := by
  cases h with
  | sessionWordSent hfsm => exact ⟨hfsm, by simpa [hu] using ht, rfl, rfl⟩
  | deselectFailed => exact absurd ht (by simp)
  | _ => exact absurd (hu.symm.trans ht) (by decide)

end Sys2Proof.Machine
end

section
/-!
SUPPORT. The host registers (spec/10_state.md R38 to R40): the fields of `STATUS`, and the steps whose act is the Host's
read or a write that issues no command.
-/

namespace Sys2Proof.Machine

/-! ### `STATUS` (R39) -/

/-- Bit `i` of `STATUS`, field by field from bit 0 up. -/
theorem statusWord_getLsbD (s : State) (i : Nat) :
    s.statusWord.getLsbD i =
      if i < 1 then (BitVec.ofBool s.busy).getLsbD i
      else if i < 2 then (BitVec.ofBool s.done).getLsbD (i - 1)
      else if i < 5 then s.status.getLsbD (i - 2)
      else if i < 8 then s.errPhase.getLsbD (i - 5)
      else if i < 9 then (BitVec.ofBool s.tog).getLsbD (i - 8)
      else if i < 10 then (BitVec.ofBool s.sreq).getLsbD (i - 9)
      else (fsmCode s.fsm).getLsbD (i - 10) := by
  simp only [State.statusWord, BitVec.getLsbD_append]
  grind

/-- A field of three bits is read off bit by bit. -/
theorem statusWord_field {s : State} {p : Nat} {x : BitVec 3}
    (h : ∀ i < 3, s.statusWord.getLsbD (p + i) = x.getLsbD i) : s.statusWord.extractLsb' p 3 = x :=
  BitVec.eq_of_getLsbD_eq fun i hi => by simp [hi, h i hi]

/-! ### The steps of the Host's data accesses -/

theorem step_of_hostRead {s : State} {reg : Nat} {rest : List Input} (hc : configValid s.cfg = true)
    (hin : s.inbox = .hostRead reg :: rest) : step s = .next (hostReadRegister reg { s with inbox := rest }) := by
  have hfetch : fetch s = none := by simp [fetch, hin]
  rw [step_of_configValid hc, hfetch, ← passTurn_of_cons hin]
  simp [withoutInstruction, hin]

/-- R80: only a word written to `CMD` issues a command. -/
theorem step_of_hostWrite {s : State} {reg : Nat} {v : PortValue} {rest : List Input} (hc : configValid s.cfg = true)
    (hin : s.inbox = .hostWrite reg v :: rest) (hreg : reg ≠ regCmd) :
    step s = .next (hostWriteData reg v { s with inbox := rest }) := by
  have hfetch : fetch s = none := by cases v <;> simp [fetch, hin, hreg]
  rw [step_of_configValid hc, hfetch, ← passTurn_of_cons hin]
  simp [withoutInstruction, hin]

theorem hostWriteData_din {b : Bytes} (hlen : b.length ≤ 65535) (s : State) :
    hostWriteData regDin (.bytes b) s = { s with din := b } := by
  simp [hostWriteData, hlen]

theorem hostWriteData_of_ne {reg : Nat} (hreg : reg ≠ regDin) (v : PortValue) (s : State) :
    hostWriteData reg v s = s.refuse .badRegisterAccess := by
  cases v <;> simp [hostWriteData, hreg]

/-- R40: a register that is write only or absent gives the Host no value. -/
theorem hostReadRegister_of_unreadable {reg : Nat} (hreg : reg = 0 ∨ reg = 3 ∨ 5 ≤ reg) (s : State) :
    hostReadRegister reg s = s.refuse .badRegisterAccess := by
  have hstatus : reg ≠ regStatus := by unfold regStatus; omega
  have hvout : reg ≠ regVout := by unfold regVout; omega
  have hdout : reg ≠ regDout := by unfold regDout; omega
  have hvalue : hostReadValue reg s = none := by simp [hostReadValue, hstatus, hvout, hdout]
  rw [hostReadRegister, hvalue]

end Sys2Proof.Machine
end

section
/-!
CERTIFICATE. The proofs of the statements of spec/10_state.md: the invariant, the whole-machine rules on `hist`, the
mark, the toggle and the session flag, and the host registers.
-/

namespace Sys2Proof.Proofs

open Sys2Proof.Machine Sys2Proof.Safety

/-- Settles O46: each effect a step can have keeps the invariant. -/
theorem stepKeepsInv : Obligations.StepKeepsInv :=
  fun _ _ hs h => machineInv_stepEffect hs (step_effect h)

/-- Settles O48: each effect a step can have records at most one event. -/
theorem historyGrowsAndMarkSticks : Obligations.HistoryGrowsAndMarkSticks := by
  intro s t h
  obtain ⟨es, hlen, hhist, hmark, hcfg⟩ := (step_effect h).records
  exact ⟨⟨es, hhist, hlen⟩, hmark, hcfg⟩

/-- Settles O49: by the effect of the step; only a sent I-block, a completed DESELECT, reset and OPEN reach `tog`. -/
theorem toggleIsWrittenOnlyBySendAndReset : Obligations.ToggleIsWrittenOnlyBySendAndReset := by
  intro s t h hchanged
  cases step_effect h with
  | badConfiguration => exact absurd rfl hchanged
  | command w hact h =>
    obtain htog | ⟨htog, hidle, hfrom, rfl⟩ := h.toggle
    · exact absurd htog hchanged
    · exact .inr ⟨htog, hidle, .inr (.inr (.inr ⟨hfrom, hact⟩))⟩
  | send h =>
    obtain htog | hfrom | ⟨htog, hidle, hfrom⟩ := h.toggle
    · exact absurd htog hchanged
    · exact .inl hfrom
    · exact .inr ⟨htog, hidle, .inl hfrom⟩
  | read h =>
    obtain htog | ⟨htog, hidle, hfrom⟩ := h.toggle
    · exact absurd htog hchanged
    · exact .inr ⟨htog, hidle, .inr (.inl hfrom)⟩
  | port h =>
    obtain htog | ⟨htog, hidle, hfrom | hact⟩ := h.toggle
    · exact absurd htog hchanged
    · exact .inr ⟨htog, hidle, .inr (.inl hfrom)⟩
    · exact .inr ⟨htog, hidle, .inr (.inr (.inl hact))⟩

/-- Settles O50: of the effects of a step only the sent session-request word clears the flag. -/
theorem sessionFlagClearedOnlyByItsWrite : Obligations.SessionFlagClearedOnlyByItsWrite := by
  intro s t h hs ht
  cases step_effect h with
  | badConfiguration => exact absurd (hs.symm.trans ht) (by decide)
  | command w hact h => exact absurd ((h.flag_kept hs).symm.trans ht) (by decide)
  | send h => exact h.flag_cleared hs ht
  | read h => exact absurd ((h.flag_kept hs).symm.trans ht) (by decide)
  | port h => exact absurd ((h.flag_kept hs).symm.trans ht) (by decide)

/-- Settles O40: `STATUS` is a concatenation, so each field is read off by the place of its bits. -/
theorem statusFields : Obligations.StatusFields := by
  intro s
  refine ⟨?busy, ?done, ?status, ?errPhase, ?tog, ?sreq, ?fsm, ?zeros, fun cfg => ?reset⟩
  case busy => rw [statusWord_getLsbD]; simp [State.busy, bne, beq_eq_decide]
  case done => rw [statusWord_getLsbD]; simp
  case status => exact statusWord_field fun i hi => by rw [statusWord_getLsbD]; grind
  case errPhase => exact statusWord_field fun i hi => by rw [statusWord_getLsbD]; grind
  case tog => rw [statusWord_getLsbD]; simp
  case sreq => rw [statusWord_getLsbD]; simp
  case fsm => exact statusWord_field fun i hi => by rw [statusWord_getLsbD]; grind
  case zeros => exact statusWord_field fun i hi => by rw [statusWord_getLsbD]; grind
  case reset => simp [State.statusWord, State.busy, State.resetWith, fsmCode]

/-- Settles O41: by the value the register map gives each of the three registers. -/
theorem hostReadsResultRegisters : Obligations.HostReadsResultRegisters := by
  intro s reg rest hc hin
  rw [step_of_hostRead hc hin]
  refine ⟨?status, ?vout, ?dout⟩
  all_goals
    rintro rfl
    rfl

/-- Settles O42: register 3 is not `CMD`, so the write issues no command, whatever the Engine does. -/
theorem dinWriteReplacesContent : Obligations.DinWriteReplacesContent := by
  intro s b rest hc hlen hin
  rw [step_of_hostWrite hc hin (by decide)]
  exact congrArg _ (hostWriteData_din hlen _)

/-- Settles O43: `DIN` is the one register the Host writes without a command, and 1, 2 and 4 are the ones it reads. -/
theorem badRegisterAccessIsRefused : Obligations.BadRegisterAccessIsRefused := by
  intro s reg v rest hc
  constructor
  · intro hin hcmd hdin
    rw [step_of_hostWrite hc hin hcmd, hostWriteData_of_ne hdin]
    rfl
  · intro hin hreg
    rw [step_of_hostRead hc hin, hostReadRegister_of_unreadable hreg]
    rfl

end Sys2Proof.Proofs
end

section
/-!
SUPPORT. The service of a WTX request, from its acceptance to its acknowledgement (spec/20_memory.md R60): what each
effect of a step leaves there; and the read transfer whose answer is too long (R56).
-/

namespace Sys2Proof.Machine

/-! ### Answers longer than requested (R56) -/

theorem receiveFrame_of_overlong {n : Nat} {r : Bytes} (hlong : n < r.length) (handle : State → State) (s : State) :
    receiveFrame n r handle s = .next ((s.issue (.read s.devAddr n)).refuse .transportOverlong) :=
  if_pos hlong

/-! ### States that are not the state of the step -/

/-- R150: a command written to a busy Engine is refused, whatever its word. -/
theorem CommandEffect.refused_of_busy {w : Word32} {u t : State} (h : CommandEffect w u t) (hbusy : u.fsm ≠ .idle) :
    ∃ why, t = u.refuse why := by
  cases h with
  | refused why => exact ⟨why, rfl⟩
  | opened hidle | exchangeAccepted _ hidle | deselectAccepted hidle | codecDone _ _ _ _ hidle
  | payloadTooLarge _ hidle => exact absurd hidle hbusy

/-- R160, R173: only `AWAITING_RESPONSE` and `DESEL_ACK` read. -/
theorem fsm_of_readLength {u : State} {n : Nat} (hn : u.readLength = some n) :
    u.fsm = .awaitingResponse ∨ u.fsm = .deselAck := by
  unfold State.readLength at hn
  split at hn
  case h_4 hfsm => exact .inl hfsm
  case h_8 hfsm => exact .inr hfsm
  all_goals cases hn

/-! ### The service of a WTX request (R60) -/

/-- A WTX request is accepted and not yet acknowledged. -/
def State.servesWtx (u : State) : Prop := u.fsm = .wtxWait ∨ u.fsm = .wtxAck

theorem State.servesWtx.fsm_ne {u : State} (hu : u.servesWtx) {p : Fsm} (hwait : p ≠ .wtxWait) (hack : p ≠ .wtxAck) :
    u.fsm ≠ p := by
  rintro rfl
  exact hu.elim hwait hack

/-- From `u` to `t` the command being serviced is the same, and `hist` has at most the wait or the acknowledgement of
the request in service besides. -/
structure KeepsWtxService (u t : State) : Prop where
  pl : t.pl = u.pl
  cmdN : t.cmdN = u.cmdN
  cmdOp : t.cmdOp = u.cmdOp
  tog : t.tog = u.tog
  hist : t.hist = u.hist ∨
    (∃ a, t.hist = u.hist ++ [⟨.write u.devAddr (encodeSWtx u.cfg u.wtxM), some a⟩]) ∨
    t.hist = u.hist ++ [⟨.wait u.waitTime, some .timer⟩]

theorem KeepsWtxService.of_passTurn {s t : State} (h : KeepsWtxService (passTurn s) t) : KeepsWtxService s t :=
  ⟨h.pl, h.cmdN, h.cmdOp, h.tog, h.hist⟩

theorem KeepsWtxService.of_portCleared {u t : State} (h : KeepsWtxService u.portCleared t) : KeepsWtxService u t :=
  ⟨h.pl, h.cmdN, h.cmdOp, h.tog, h.hist⟩

theorem keepsWtxService_refuse (u : State) (why : RefusalReason) : KeepsWtxService u (u.refuse why) :=
  ⟨rfl, rfl, rfl, rfl, .inl rfl⟩

theorem CommandEffect.keepsWtxService {w : Word32} {u t : State} (h : CommandEffect w u t) (hu : u.servesWtx) :
    KeepsWtxService u t := by
  obtain ⟨why, rfl⟩ := h.refused_of_busy (hu.fsm_ne (by decide) (by decide))
  exact keepsWtxService_refuse u why

/-- R167: of the frames only the acknowledgement is sent. -/
theorem SendEffect.keepsWtxService {u t : State} (h : SendEffect u t) (hu : u.servesWtx) : KeepsWtxService u t := by
  cases h with
  | issued => exact ⟨rfl, rfl, rfl, rfl, .inl rfl⟩
  | overflow => exact keepsWtxService_refuse u _
  | wtxAckSent | wtxAckFailed => exact ⟨rfl, rfl, rfl, rfl, .inr (.inl ⟨_, rfl⟩)⟩
  | sessionWordSent hfsm | sessionWordFailed hfsm | iBlockSent hfsm | iBlockFailed hfsm | deselectSent hfsm
  | deselectFailed hfsm => exact absurd hfsm (hu.fsm_ne (by decide) (by decide))

theorem ReadEffect.keepsWtxService {u t : State} (h : ReadEffect u t) (hu : u.servesWtx) : KeepsWtxService u t := by
  cases h with
  | refused => exact ⟨rfl, rfl, rfl, rfl, .inl rfl⟩
  | wtx _ hfsm | response _ hfsm | deselAck _ hfsm => exact absurd hfsm (hu.fsm_ne (by decide) (by decide))

/-- R60, R166: without reset, the Timer's completion is the one act that ends the wait. -/
theorem PortEffect.keepsWtxService {act : Option Input} {u t : State} (h : PortEffect act u t) (hu : u.servesWtx)
    (hact : act ≠ some .reset) : KeepsWtxService u t := by
  cases h with
  | reset hreset => exact absurd hreset hact
  | readFailed n hn =>
    obtain hfsm | hfsm := fsm_of_readLength hn
    · exact absurd hfsm (hu.fsm_ne (by decide) (by decide))
    · exact absurd hfsm (hu.fsm_ne (by decide) (by decide))
  | waitDone => exact ⟨rfl, rfl, rfl, rfl, .inr (.inr rfl)⟩
  | unchanged | refused | issued | issuedRefused | hostRead | dinWritten => exact ⟨rfl, rfl, rfl, rfl, .inl rfl⟩

theorem StepEffect.keepsWtxService {s t : State} (h : StepEffect s t) (hs : s.servesWtx)
    (hact : s.inbox.head? ≠ some .reset) : KeepsWtxService s t := by
  have htaken : (passTurn s).servesWtx := hs
  have hcleared : (passTurn s).portCleared.servesWtx := hs
  cases h with
  | badConfiguration => exact keepsWtxService_refuse s _
  | command w _ h => exact (h.keepsWtxService hcleared).of_portCleared.of_passTurn
  | send h => exact (h.keepsWtxService hcleared).of_portCleared.of_passTurn
  | read h => exact (h.keepsWtxService hcleared).of_portCleared.of_passTurn
  | port h => exact (h.keepsWtxService htaken hact).of_passTurn

end Sys2Proof.Machine
end

section
/-!
CERTIFICATE. The proofs of the statements of spec/20_memory.md: no command during the service of a WTX request, and the
answer longer than requested.
-/

namespace Sys2Proof.Proofs

open Sys2Proof.Machine Sys2Proof.Safety

/-- Settles O52: by the effect of the step; in `WTX_WAIT` and `WTX_ACK` a command is refused, and the only frame sent is
the acknowledgement. Of the invariant nothing is needed. -/
theorem noCommandDuringWtxService : Obligations.NoCommandDuringWtxService := by
  intro s t _ hs hact h
  obtain ⟨hpl, hn, hop, htog, hhist⟩ := (step_effect h).keepsWtxService hs hact
  exact ⟨hpl, hn, hop, htog, hhist⟩

/-- Settles O28: each of the three frames is due in its state, and its read transfer refuses the bytes. -/
theorem overlongReadIsRefused : Obligations.OverlongReadIsRefused := by
  intro r tail s
  refine ⟨?response, ?wtx, ?deselAck⟩
  all_goals
    intro hfsm hlong
    exact (whenDue_of hfsm).trans (receiveFrame_of_overlong hlong _ s)

end Sys2Proof.Proofs
end

section
/-!
SUPPORT. The command word (spec/30_encoding.md R80 to R82): a word matches a row of the opcode map exactly where it is
the encoding of what the row builds from it; the rows are disjoint; so decoding a word is matching some row.
-/

namespace Sys2Proof.Machine

open Sys2Proof.Safety

/-! ### Words made of fields -/

theorem bitVec_append_inj {m n : Nat} {a b : BitVec m} {c d : BitVec n} : a ++ c = b ++ d ↔ a = b ∧ c = d := by
  constructor
  · intro h
    have hlow : c = d := by
      simpa only [BitVec.extractLsb'_append_eq_right] using congrArg (BitVec.extractLsb' 0 n) h
    subst hlow
    exact ⟨(BitVec.append_left_inj c).mp h, rfl⟩
  · rintro ⟨rfl, rfl⟩
    rfl

/-- A mask that leaves the high field open fixes the low field, and only it. -/
theorem and_lowMask_eq_iff {m n : Nat} (w : BitVec (m + n)) (c : BitVec n) :
    w &&& (0#m ++ BitVec.allOnes n) = 0#m ++ c ↔ w.extractLsb' n m ++ c = w := by
  have hsplit : w.extractLsb' n m ++ w.extractLsb' 0 n = w := BitVec.extractLsb'_append_extractLsb'
  generalize w.extractLsb' n m = hi at *
  generalize w.extractLsb' 0 n = lo at *
  subst hsplit
  simp [bitVec_append_inj, eq_comm]

/-- A mask that leaves a middle field open fixes the high and the low field, and only them. -/
theorem and_outerMask_eq_iff {k m n : Nat} (w : BitVec (k + m + n)) (a : BitVec k) (c : BitVec n) :
    w &&& (BitVec.allOnes k ++ 0#m ++ BitVec.allOnes n) = a ++ 0#m ++ c ↔ a ++ w.extractLsb' n m ++ c = w := by
  have hsplit : w.extractLsb' n (k + m) ++ w.extractLsb' 0 n = w := BitVec.extractLsb'_append_extractLsb'
  have hmid : (w.extractLsb' n (k + m)).extractLsb' 0 m = w.extractLsb' n m := by
    refine BitVec.eq_of_getLsbD_eq fun i hi => ?_
    simp only [BitVec.getLsbD_extractLsb']
    grind
  generalize w.extractLsb' n (k + m) = outer at *
  generalize w.extractLsb' 0 n = lo at *
  have hsplit' : outer.extractLsb' m k ++ outer.extractLsb' 0 m = outer := BitVec.extractLsb'_append_extractLsb'
  subst hsplit
  rw [← hmid]
  generalize outer.extractLsb' m k = hi at *
  generalize outer.extractLsb' 0 m = mid at *
  subst hsplit'
  simp [bitVec_append_inj, eq_comm]

theorem ofBool_fieldX (w : Word32) : BitVec.ofBool (fieldX w) = w.extractLsb' 4 1 := by
  refine BitVec.eq_of_getLsbD_eq fun i hi => ?_
  obtain rfl : i = 0 := by omega
  simp [fieldX]

/-! ### The rows of the opcode map (R81) -/

theorem and_halfMask_eq_iff (w : Word32) (c : Word16) : w &&& 0x0000FFFF#32 = 0#16 ++ c ↔ fieldH w ++ c = w :=
  and_lowMask_eq_iff (m := 16) w c

theorem and_byteMask_eq_iff (w : Word32) (c : Byte) :
    w &&& 0xFFFF00FF#32 = 0#16 ++ 0#8 ++ c ↔ 0#16 ++ fieldB w ++ c = w :=
  and_outerMask_eq_iff (k := 16) (m := 8) w 0#16 c

theorem and_toggleMask_eq_iff (w : Word32) (c : BitVec 4) :
    w &&& 0xFFFFFFEF#32 = 0#27 ++ 0#1 ++ c ↔ 0#27 ++ BitVec.ofBool (fieldX w) ++ c = w := by
  rw [ofBool_fieldX]
  exact and_outerMask_eq_iff (k := 27) (m := 1) w 0#27 c

theorem and_wordMask_eq_iff (w c : Word32) : w &&& 0xFFFFFFFF#32 = c ↔ c = w := by
  change w &&& BitVec.allOnes 32 = c ↔ c = w
  rw [BitVec.and_allOnes, eq_comm]

/-- A word matches a row exactly where it is the encoding of the instruction the row builds from it. -/
theorem matches_iff_encode_build {row : CommandRow} (hrow : row ∈ commandRows) (cfg : Config) (w : Word32) :
    w &&& row.mask = row.pattern ↔ encode cfg (row.build w) = .command w := by
  simp only [commandRows, List.mem_cons, List.not_mem_nil, or_false] at hrow
  obtain rfl | rfl | rfl | rfl | rfl | rfl | rfl | rfl | rfl := hrow <;>
    dsimp only [encode] <;> rw [Fetched.command.injEq]
  · exact and_wordMask_eq_iff w _
  · exact and_halfMask_eq_iff w 0x0002#16
  · exact and_wordMask_eq_iff w _
  · exact and_halfMask_eq_iff w 0x0004#16
  · exact and_toggleMask_eq_iff w 0x5#4
  · exact and_wordMask_eq_iff w _
  · exact and_byteMask_eq_iff w 0x16#8
  · exact and_byteMask_eq_iff w 0x07#8
  · exact and_wordMask_eq_iff w _

/-! ### The fields of an encoded word (R80) -/

theorem fieldH_append (h c : Word16) : fieldH (h ++ c) = h := BitVec.extractLsb'_append_eq_left

theorem fieldB_append (b c : Byte) : fieldB (0#16 ++ b ++ c) = b := by
  rw [fieldB, BitVec.extractLsb'_append_eq_of_le (Nat.le_refl 8)]
  exact BitVec.extractLsb'_append_eq_right

theorem fieldX_append (t : Bool) : fieldX (0#27 ++ BitVec.ofBool t ++ 0x5#4) = t := by
  cases t <;> rfl

/-- Every command of the table is built by a row from its encoding. -/
theorem exists_row_of_encode_command {cfg : Config} {i : Instr} {w : Word32} (h : encode cfg i = .command w) :
    ∃ row ∈ commandRows, row.build w = i := by
  simp only [commandRows, List.exists_mem_cons_iff, List.not_mem_nil, false_and, exists_false, or_false]
  cases i <;> simp only [encode, Fetched.command.injEq, reduceCtorEq] at h <;> subst h
  case exchange | crc16 => simp [fieldH_append]
  case encI => simp [fieldX_append]
  case encSWtx | isWtx => simp [fieldB_append]
  all_goals simp

/-- The well-formedness check is on frames only. -/
theorem wellFormed_of_encode_command {cfg : Config} {i : Instr} {w : Word32} (h : encode cfg i = .command w) :
    i.wellFormed cfg = true := by
  obtain ⟨row, hrow, rfl⟩ := exists_row_of_encode_command h
  simp only [commandRows, List.mem_cons, List.not_mem_nil, or_false] at hrow
  obtain rfl | rfl | rfl | rfl | rfl | rfl | rfl | rfl | rfl := hrow <;> rfl

/-! ### Decoding a command word (R81, R82) -/

/-- R81: no word matches two rows. -/
theorem commandRows_disjoint :
    commandRows.Pairwise fun a b => ∀ w : Word32, ¬ (w &&& a.mask = a.pattern ∧ w &&& b.mask = b.pattern) := by
  have hrows : commandRows.Pairwise fun a b => a.pattern &&& b.mask ≠ b.pattern &&& a.mask := by decide
  refine hrows.imp fun {a b} hne w ⟨ha, hb⟩ => hne ?_
  calc a.pattern &&& b.mask = w &&& a.mask &&& b.mask := by rw [ha]
    _ = w &&& b.mask &&& a.mask := by rw [BitVec.and_assoc, BitVec.and_comm a.mask, BitVec.and_assoc]
    _ = b.pattern &&& a.mask := by rw [hb]

theorem row_eq_of_matches {a b : CommandRow} (ha : a ∈ commandRows) (hb : b ∈ commandRows) {w : Word32}
    (hwa : w &&& a.mask = a.pattern) (hwb : w &&& b.mask = b.pattern) : a = b := by
  refine List.Pairwise.forall_of_forall_of_flip
    (R := fun a b : CommandRow => w &&& a.mask = a.pattern → w &&& b.mask = b.pattern → a = b)
    (fun _ _ _ _ => rfl) ?_ ?_ ha hb hwa hwb
  · exact commandRows_disjoint.imp fun hdisjoint hwa hwb => absurd ⟨hwa, hwb⟩ (hdisjoint w)
  · exact commandRows_disjoint.imp fun hdisjoint hwb hwa => absurd ⟨hwa, hwb⟩ (hdisjoint w)

/-- R81: a word decodes to what the row it matches builds from it. -/
theorem decodeCommand_of_matches {row : CommandRow} (hrow : row ∈ commandRows) {w : Word32}
    (hw : w &&& row.mask = row.pattern) : decodeCommand w = .ok (row.build w) := by
  unfold decodeCommand
  split
  case h_1 found hfound =>
    have hmatch : w &&& found.mask = found.pattern := by simpa using List.find?_some hfound
    rw [row_eq_of_matches hrow (List.mem_of_find?_eq_some hfound) hw hmatch]
  case h_2 hnone => exact absurd hw (by simpa using List.find?_eq_none.mp hnone row hrow)

/-- A command word decodes to `i` exactly where it is the encoding of `i`. -/
theorem decodeCommand_eq_ok_iff (cfg : Config) {w : Word32} {i : Instr} :
    decodeCommand w = .ok i ↔ encode cfg i = .command w := by
  constructor
  · intro h
    obtain ⟨row, hrow, hw, rfl⟩ := decodeCommand_matches h
    exact (matches_iff_encode_build hrow cfg w).mp hw
  · intro h
    obtain ⟨row, hrow, rfl⟩ := exists_row_of_encode_command h
    exact decodeCommand_of_matches hrow ((matches_iff_encode_build hrow cfg w).mpr h)

/-- An instruction encoded as a command word is what that word decodes to. -/
theorem decode_encode_command {cfg : Config} {i : Instr} {w : Word32} (h : encode cfg i = .command w) :
    decode cfg (encode cfg i) = .ok i := by
  rw [h]
  exact (decodeCommand_eq_ok_iff cfg).mpr h

/-- R82: a word that matches no row is a reserved encoding. -/
theorem decodeCommand_of_no_match {w : Word32} (h : ∀ row ∈ commandRows, w &&& row.mask ≠ row.pattern) :
    decodeCommand w = .error .reservedEncoding := by
  have hnone : commandRows.find? (fun r => w &&& r.mask == r.pattern) = none := by simpa using h
  rw [decodeCommand, hnone]

/-! ### Reserved words (R82) -/

/-- A field that the mask covers is the pattern's. -/
theorem extractLsb'_eq_of_matches {w m p : Word32} (h : w &&& m = p) {start len : Nat}
    (hm : m.extractLsb' start len = BitVec.allOnes len) : w.extractLsb' start len = p.extractLsb' start len := by
  rw [← h, BitVec.extractLsb'_and, hm, BitVec.and_allOnes]

/-- R81: every row fixes the opcode to one of 1 to 8, and `w[7:5]` to zeros. -/
theorem opcode_of_matches {row : CommandRow} (hrow : row ∈ commandRows) {w : Word32}
    (hw : w &&& row.mask = row.pattern) : 1 ≤ w.toNat % 16 ∧ w.toNat % 16 ≤ 8 ∧ w.toNat / 32 % 8 = 0 := by
  have hfixed : ∀ row ∈ commandRows, row.mask.extractLsb' 0 4 = BitVec.allOnes 4 ∧
      row.mask.extractLsb' 5 3 = BitVec.allOnes 3 ∧ 1#4 ≤ row.pattern.extractLsb' 0 4 ∧
      row.pattern.extractLsb' 0 4 ≤ 8#4 ∧ row.pattern.extractLsb' 5 3 = 0#3 := by decide
  obtain ⟨hop, hres, hlow, hhigh, hzero⟩ := hfixed row hrow
  rw [← extractLsb'_eq_of_matches hw hop] at hlow hhigh
  rw [← extractLsb'_eq_of_matches hw hres] at hzero
  rw [BitVec.toNat_eq, BitVec.extractLsb'_toNat] at hzero
  rw [BitVec.le_def, BitVec.extractLsb'_toNat] at hlow hhigh
  simp only [Nat.shiftRight_eq_div_pow, BitVec.toNat_ofNat] at hlow hhigh hzero
  omega

end Sys2Proof.Machine
end

section
/-!
SUPPORT. The frames (spec/30_encoding.md R70 to R79): a valid string is its data part with the check bytes appended, so
an outbound frame that decodes is the one encoding of its instruction; an inbound frame is told by its first byte.
-/

namespace Sys2Proof.Machine

open Sys2Proof.Safety

/-! ### Check bytes (R52, R103, R104) -/

theorem crcBytes_checkValue (lo hi : Byte) : crcBytes (checkValue lo hi) = [lo, hi] := by
  have hlow : (checkValue lo hi).extractLsb' 0 8 = lo := by
    refine BitVec.eq_of_getLsbD_eq fun i hlt => ?_
    have hlt16 : i < 16 := by omega
    simp [checkValue, hlt, hlt16]
  have hhigh : (checkValue lo hi).extractLsb' 8 8 = hi := by
    refine BitVec.eq_of_getLsbD_eq fun i hlt => ?_
    have hlt16 : 8 + i < 16 := by omega
    simp [checkValue, hlt, hlt16]
  rw [crcBytes, hlow, hhigh]

/-- R104: the check bytes of a valid string are those of its data part. -/
theorem eq_appendCrc_of_valid {cfg : Config} {f : Bytes} (h : valid cfg f = true) : f = appendCrc cfg (dataPart f) := by
  unfold valid at h
  split at h
  case h_1 lo hi hcheck =>
    calc f = dataPart f ++ f.drop (f.length - 2) := (List.take_append_drop _ f).symm
      _ = appendCrc cfg (dataPart f) := by rw [appendCrc, eq_of_beq h, hcheck, crcBytes_checkValue]
  case h_2 => cases h

/-! ### Outbound frames (R71 to R74) -/

theorem encode_iBlockInstr (cfg : Config) (t : Bool) (inf : Bytes) :
    encode cfg (iBlockInstr t inf) = .frame .sendI (iBlockFrame cfg t inf) := by
  cases t <;> rfl

theorem wellFormed_iBlockInstr (cfg : Config) (t : Bool) (inf : Bytes) :
    (iBlockInstr t inf).wellFormed cfg = true ↔ inf.length + 3 ≤ cfg.maxFrame := by
  cases t <;> simp [iBlockInstr, Instr.wellFormed, iBlockFits]

/-- R70, R72: a valid frame that begins with the PCB of toggle `t` is the I-block of its information field. -/
theorem eq_iBlockFrame_of_valid {cfg : Config} {f : Bytes} {t : Bool} (hlen : 3 ≤ f.length)
    (hvalid : valid cfg f = true) (hhead : f.head? = some (iBlockPcb cfg t)) : f = iBlockFrame cfg t (infField f) := by
  obtain ⟨tail, rfl⟩ := List.head?_eq_some_iff.mp hhead
  have hdata : dataPart (iBlockPcb cfg t :: tail) = iBlockPcb cfg t :: infField (iBlockPcb cfg t :: tail) := by
    obtain ⟨n, hn⟩ : ∃ n, (iBlockPcb cfg t :: tail).length - 2 = n + 1 :=
      Nat.exists_eq_add_one.mpr (by omega)
    simp only [infField, dataPart, hn, List.take_succ_cons, List.drop_succ_cons, List.drop_zero]
  rw [iBlockFrame, ← hdata]
  exact eq_appendCrc_of_valid hvalid

theorem eq_encode_of_decodeIBlock {cfg : Config} {f : Bytes} {i : Instr} (h : decodeIBlock cfg f = .ok i) :
    encode cfg i = .frame .sendI f ∧ i.wellFormed cfg = true := by
  unfold decodeIBlock at h
  split_ifs at h with hlen hinvalid hhead hhead
  all_goals
    cases h
    have hvalid : valid cfg f = true := by simpa using hinvalid
    have hf := eq_iBlockFrame_of_valid (by omega) hvalid hhead
    have hfits : (infField f).length + 3 ≤ cfg.maxFrame := by
      rw [← iBlockFrame_length, ← hf]
      omega
  · exact ⟨congrArg _ hf.symm, (wellFormed_iBlockInstr cfg false _).mpr hfits⟩
  · exact ⟨congrArg _ hf.symm, (wellFormed_iBlockInstr cfg true _).mpr hfits⟩

theorem eq_encode_of_decodeSDeselect {cfg : Config} {f : Bytes} {i : Instr} (h : decodeSDeselect cfg f = .ok i) :
    encode cfg i = .frame .deselecting f ∧ i.wellFormed cfg = true := by
  unfold decodeSDeselect at h
  split at h
  case h_2 => cases h
  case h_1 pcb lo hi =>
    split_ifs at h with hpcb hvalid
    cases h
    obtain rfl : pcb = cfg.pcbSDeselect := not_not.mp hpcb
    exact ⟨congrArg _ (eq_appendCrc_of_valid hvalid).symm, rfl⟩

theorem eq_encode_of_decodeSWtxAck {cfg : Config} {f : Bytes} {i : Instr} (h : decodeSWtxAck cfg f = .ok i) :
    encode cfg i = .frame .wtxAck f ∧ i.wellFormed cfg = true := by
  unfold decodeSWtxAck at h
  split at h
  case h_2 => cases h
  case h_1 pcb m lo hi =>
    split_ifs at h with hpcb hvalid
    cases h
    obtain rfl : pcb = cfg.pcbSWtx := not_not.mp hpcb
    exact ⟨congrArg _ (eq_appendCrc_of_valid hvalid).symm, rfl⟩

theorem decode_sessionRequested_eq_ok {cfg : Config} {f : Bytes} {i : Instr}
    (h : decode cfg (.frame .sessionRequested f) = .ok i) : f = cfg.sreqWord ∧ i = .sessionRequestWord := by
  dsimp only [decode] at h
  split at h
  case isTrue hword => cases h; exact ⟨hword, rfl⟩
  case isFalse => cases h

/-! ### Inbound frames (R75, R76, R79, R124) -/

theorem decodeInbound_wtx (tail : Bytes) : decodeInbound (wtxMarker :: tail) = .wtxRequest tail := by
  simp [decodeInbound, classify, isWtxByte]

theorem decodeInbound_of_notWtx {r : Bytes} (h : notWtx r = true) : decodeInbound r = .substantiveResponse r := by
  cases r with
  | nil => rfl
  | cons b tail =>
    have hb : b ≠ wtxMarker := by simpa [notWtx] using h
    simp [decodeInbound, classify, isWtxByte, hb]

theorem eq_encode_decodeInbound (cfg : Config) (r : Bytes) :
    encode cfg (decodeInbound r) = .frame .awaitingResponse r ∧ (decodeInbound r).wellFormed cfg = true := by
  by_cases h : notWtx r = true
  · rw [decodeInbound_of_notWtx h]
    exact ⟨rfl, h⟩
  · obtain ⟨tail, rfl⟩ : ∃ tail, r = wtxMarker :: tail := by
      simpa [notWtx, List.head?_eq_some_iff] using h
    rw [decodeInbound_wtx]
    exact ⟨rfl, rfl⟩

end Sys2Proof.Machine
end

section
/-!
SUPPORT. The request of each Engine state, as a write of the frame it sends or a read (spec/42_session_fsm.md R155);
the steps whose act is the Host's write of `CMD` (spec/30_encoding.md R80, spec/42_session_fsm.md R150) or a
read answered with bytes (R160, R173), and the run of an assembled line (spec/30_encoding.md R84).
-/

namespace Sys2Proof.Machine

open Sys2Proof.Safety

/-! ### The request of each state (R155) -/

theorem dueRequest_of_outgoing {s : State} {f : Bytes} (hf : s.outgoing = some f) :
    s.dueRequest = some (.write s.devAddr f) := by
  unfold State.outgoing at hf
  unfold State.dueRequest
  cases hfsm : s.fsm <;> simp only [hfsm, reduceCtorEq, Option.some.injEq] at hf ⊢
  case sendI => rw [hf]; rfl
  all_goals rw [hf]

theorem outgoing_of_dueRequest_write {s : State} {addr : Nat} {f : Bytes} (hq : s.dueRequest = some (.write addr f)) :
    addr = s.devAddr ∧ s.outgoing = some f := by
  unfold State.dueRequest at hq
  unfold State.outgoing
  cases hfsm : s.fsm <;>
    simp only [hfsm, reduceCtorEq, Option.some.injEq, Request.write.injEq, Option.map_eq_some_iff] at hq
  case sendI =>
    obtain ⟨f', hf', haddr, rfl⟩ := hq
    exact ⟨haddr.symm, hf'⟩
  all_goals
    obtain ⟨haddr, rfl⟩ := hq
    exact ⟨haddr.symm, rfl⟩

theorem readLength_of_awaitingResponse {s : State} (hfsm : s.fsm = .awaitingResponse) :
    s.readLength = some s.cmdN.toNat := by
  simp [State.readLength, hfsm]

theorem readLength_of_deselAck {s : State} (hfsm : s.fsm = .deselAck) : s.readLength = some s.cfg.deselAckLen := by
  simp [State.readLength, hfsm]

theorem dueRequest_of_readLength {s : State} {n : Nat} (hn : s.readLength = some n) :
    s.dueRequest = some (.read s.devAddr n) := by
  unfold State.readLength at hn
  unfold State.dueRequest
  cases hfsm : s.fsm <;> simp only [hfsm, reduceCtorEq, Option.some.injEq] at hn ⊢
  all_goals rw [hn]

/-! ### The write of `CMD` -/

theorem serve_of_hostWrite {s : State} {reg : Nat} {v : PortValue} {rest : List Input}
    (hin : s.inbox = .hostWrite reg v :: rest) : serve s = { s with inbox := rest, answer := none } := by
  simp [serve, hin]

theorem fetch_of_commandWrite {s : State} {w : Word32} {rest : List Input}
    (hin : s.inbox = .hostWrite regCmd (.word32 w) :: rest) : fetch s = some (.command w) := by
  simp [fetch, hin]

/-- R80: the step runs the instruction of the word written. -/
theorem step_of_commandWrite {s : State} {w : Word32} {rest : List Input} {i : Instr} (hc : configValid s.cfg = true)
    (hin : s.inbox = .hostWrite regCmd (.word32 w) :: rest) (hdec : decodeCommand w = .ok i) :
    step s = exec i { s with inbox := rest, answer := none } := by
  have hdec' : decode s.cfg (.command w) = .ok i := hdec
  rw [step_of_configValid hc, fetch_of_commandWrite hin, ← serve_of_hostWrite hin]
  simp only [hdec']

/-- R82, R150: a word of no row is refused. -/
theorem step_of_reservedWrite {s : State} {w : Word32} {rest : List Input} {e : DecodeError}
    (hc : configValid s.cfg = true) (hin : s.inbox = .hostWrite regCmd (.word32 w) :: rest)
    (hdec : decodeCommand w = .error e) :
    step s = .next (({ s with inbox := rest, answer := none } : State).refuse
      (if s.fsm = .idle then .reservedEncoding else .busyCommand)) := by
  have hdec' : decode s.cfg (.command w) = .error e := hdec
  rw [step_of_configValid hc, fetch_of_commandWrite hin, ← serve_of_hostWrite hin]
  by_cases hidle : s.fsm = .idle
  · simp [hdec', notDecoded, hidle]
  · simp [hdec', notDecoded, hidle]

/-! ### A read answered with bytes -/

/-- R155: in a state that reads, the step runs the inbound frame that the bytes decode to. -/
theorem step_of_readOk {s : State} {r : Bytes} {rest : List Input} {n : Nat} {i : Instr}
    (hc : configValid s.cfg = true) (hin : s.inbox = .answer s.hist.length (.readOk r) :: rest)
    (hn : s.readLength = some n) (hdec : decode s.cfg (.frame s.fsm r) = .ok i) :
    step s = exec i { s with inbox := rest, answer := some (.readOk r) } := by
  have hfits : answerFits s s.hist.length (.readOk r) = true := 
    answerFits_iff.mpr ⟨rfl, _, dueRequest_of_readLength hn, rfl⟩
  have hfetch : fetch s = some (.frame s.fsm r) := by simp [fetch, hin, hfits]
  have hserve : serve s = { s with inbox := rest, answer := some (.readOk r) } := by simp [serve, hin]
  rw [step_of_configValid hc, hfetch, ← hserve]
  simp only [hdec]

/-! ### The run of an assembled line (R84) -/

theorem runFor_one (s : State) : runFor 1 s = step s := by
  cases h : step s <;> simp only [runFor, h]

theorem runFor_succ_of_next {k : Nat} {s t : State} (h : step s = .next t) : runFor (k + 1) s = runFor k t := by
  simp only [runFor, h]

/-- A line stands for a command, whose word decodes to it; the line is the write of its byte string, if it has one, and
then of that word. -/
theorem exists_word_of_line (cfg : Config) (l : AsmLine) :
    ∃ w, decodeCommand w = .ok (asmInstr l) ∧
      assemble cfg l =
        ((asmData l).map fun b => Input.hostWrite regDin (.bytes b)).toList ++ [.hostWrite regCmd (.word32 w)] := by
  obtain ⟨w, hw⟩ : ∃ w, encode cfg (asmInstr l) = .command w := by cases l <;> exact ⟨_, rfl⟩
  exact ⟨w, (decodeCommand_eq_ok_iff cfg).mpr hw, by simp [assemble, hw]⟩

end Sys2Proof.Machine
end

section
/-!
SUPPORT. The requests recorded in `hist` (spec/20_memory.md R58, R59): each event a step records, abandoned or answered,
is of the request due in the state it starts from; and what a due write is (spec/30_encoding.md R70, R78).
-/

namespace Sys2Proof.Machine

open Sys2Proof.Safety

/-! ### The one due request -/

/-- From `s` to `t` at most the request due in `s` is recorded. -/
def RecordsDue (s t : State) : Prop :=
  t.hist = s.hist ∨ ∃ q a, s.dueRequest = some q ∧ t.hist = s.hist ++ [⟨q, a⟩]

theorem RecordsDue.request_eq {s t : State} (h : RecordsDue s t) {q : Request} {a : Option Answer}
    (hhist : t.hist = s.hist ++ [⟨q, a⟩]) : s.dueRequest = some q := by
  obtain hsame | ⟨p, b, hdue, hp⟩ := h
  · rw [hsame] at hhist
    simp at hhist
  · rw [hp] at hhist
    simp only [List.append_cancel_left_eq, List.cons.injEq, Event.mk.injEq, and_true] at hhist
    rw [hdue, hhist.1]

/-! ### What each effect records -/

theorem SendEffect.recordsDue {u t : State} (h : SendEffect u t) : RecordsDue u t := by
  have hsent {f : Bytes} {a : Answer} (hf : u.outgoing = some f)
      (hhist : t.hist = u.hist ++ [⟨.write u.devAddr f, some a⟩]) : RecordsDue u t :=
    .inr ⟨_, _, dueRequest_of_outgoing hf, hhist⟩
  cases h with
  | issued | overflow => exact .inl rfl
  | sessionWordSent hfsm | sessionWordFailed hfsm => exact hsent (by simp [State.outgoing, hfsm]) rfl
  | iBlockSent hfsm hfits | iBlockFailed hfsm hfits =>
    rw [iBlockFrame_length] at hfits
    have hf : u.outgoing = some (iBlockFrame u.cfg u.tog u.pl) := by
      rw [State.outgoing, hfsm]
      exact encodeI_eq_some.mpr ⟨hfits, rfl⟩
    exact hsent hf rfl
  | wtxAckSent hfsm | wtxAckFailed hfsm => exact hsent (by simp [State.outgoing, hfsm]) rfl
  | deselectSent hfsm | deselectFailed hfsm => exact hsent (by simp [State.outgoing, hfsm]) rfl

theorem ReadEffect.recordsDue {u t : State} (h : ReadEffect u t) : RecordsDue u t := by
  cases h with
  | refused => exact .inl rfl
  | wtx r hfsm =>
    exact .inr ⟨_, _, dueRequest_of_readLength (readLength_of_awaitingResponse hfsm),
      ((gotBytes_records u _ r).then_none (handleWtx_frame r _).1).hist⟩
  | response r hfsm =>
    exact .inr ⟨_, _, dueRequest_of_readLength (readLength_of_awaitingResponse hfsm),
      ((gotBytes_records u _ r).then_none (handleResponse_frame r _).1).hist⟩
  | deselAck r hfsm =>
    exact .inr ⟨_, _, dueRequest_of_readLength (readLength_of_deselAck hfsm),
      ((gotBytes_records u _ r).then_none (handleDeselAck_frame r _).1).hist⟩

/-- R59, R230: what a reset abandons is the due request, for no other is ever outstanding. -/
theorem PortEffect.recordsDue {act : Option Input} {u t : State} (h : PortEffect act u t)
    (hpending : u.pending = none ∨ u.pending = u.dueRequest) : RecordsDue u t := by
  cases h with
  | reset =>
    cases hp : u.pending with
    | none => exact .inl (by simp [State.resetInput_hist, hp])
    | some q =>
      have hdue : u.dueRequest = some q := by simpa [hp, eq_comm] using hpending
      exact .inr ⟨q, none, hdue, by simp [State.resetInput_hist, hp]⟩
  | readFailed n hn =>
    obtain ⟨-, heq⟩ | ⟨-, heq⟩ := readFailed_cases n u
    all_goals
      rw [heq]
      exact .inr ⟨_, _, dueRequest_of_readLength hn, rfl⟩
  | waitDone hfsm => exact .inr ⟨_, _, by simp [State.dueRequest, hfsm], rfl⟩
  | unchanged | refused | issued | issuedRefused | hostRead | dinWritten => exact .inl rfl

theorem StepEffect.recordsDue {s t : State} (h : StepEffect s t)
    (hpending : s.pending = none ∨ s.pending = s.dueRequest) : RecordsDue s t := by
  cases h with
  | badConfiguration => exact .inl rfl
  | command w _ h => exact .inl (h.records.hist.trans (List.append_nil _))
  | send h => exact h.recordsDue
  | read h => exact h.recordsDue
  | port h => exact h.recordsDue hpending

/-! ### What a due write is -/

/-- R70, R78, R120: the Engine sends the session-request word or a valid frame, within the ceiling. -/
theorem outgoing_valid {s : State} (hc : configValid s.cfg = true) {f : Bytes} (hf : s.outgoing = some f) :
    f.length ≤ s.cfg.maxFrame ∧ (f = s.cfg.sreqWord ∨ valid s.cfg f = true) := by
  obtain ⟨-, -, hmin, -, -, hword, -⟩ := configValid_iff.mp hc
  unfold State.outgoing at hf
  cases hfsm : s.fsm <;> simp only [hfsm, reduceCtorEq, Option.some.injEq] at hf
  case sessionRequested =>
    subst hf
    exact ⟨hword, .inl rfl⟩
  case sendI =>
    obtain ⟨hfits, rfl⟩ := encodeI_eq_some.mp hf
    exact ⟨by rwa [iBlockFrame_length], .inr (valid_appendCrc s.cfg _)⟩
  case wtxAck =>
    subst hf
    exact ⟨by simpa [encodeSWtx] using hmin, .inr (valid_appendCrc s.cfg _)⟩
  case deselecting =>
    subst hf
    exact ⟨by simpa [encodeSDeselect] using Nat.le_of_lt hmin, .inr (valid_appendCrc s.cfg _)⟩

end Sys2Proof.Machine
end

section
/-!
CERTIFICATE. The proofs of the statements of spec/30_encoding.md: decoding and encoding (R70 to R83), the check bytes
(R103, R104), the rows of the opcode map (R81, R82), the assembled line (R84), and the steps that a command word and the
bytes of a read select (R79, R80, R124).
-/

namespace Sys2Proof.Proofs

open Sys2Proof.Machine Sys2Proof.Safety

/-- Settles O7: a command word matches the row of its instruction; an outbound frame is valid and shows its kind's PCB;
an inbound frame is told by its first byte. -/
theorem decodeOfEncode : Obligations.DecodeOfEncode := by
  intro cfg i hc hwf
  obtain ⟨hbase, -⟩ := configValid_iff.mp hc
  cases i with
  | iBlockToggle0 inf => exact decodeIBlock_iBlockFrame hbase false ((wellFormed_iBlockInstr cfg false inf).mp hwf)
  | iBlockToggle1 inf => exact decodeIBlock_iBlockFrame hbase true ((wellFormed_iBlockInstr cfg true inf).mp hwf)
  | sDeselect => exact decodeSDeselect_encodeSDeselect cfg
  | sWtxAck m => exact decodeSWtxAck_encodeSWtx cfg m
  | sessionRequestWord => exact if_pos rfl
  | wtxRequest tail => exact congrArg _ (decodeInbound_wtx tail)
  | substantiveResponse r => exact congrArg _ (decodeInbound_of_notWtx hwf)
  | deselectAck r => rfl
  | _ => exact decode_encode_command rfl

/-- Settles O8: by the Engine state; the check bytes of a valid frame are determined by the bytes before them. -/
theorem encodeOfDecode : Obligations.EncodeOfDecode := by
  intro cfg x i _ h
  cases x with
  | command w =>
    have hword := (decodeCommand_eq_ok_iff cfg).mp h
    exact ⟨hword, wellFormed_of_encode_command hword⟩
  | frame phase f =>
    cases phase with
    | idle => cases h
    | wtxWait => cases h
    | sessionRequested =>
      obtain ⟨rfl, rfl⟩ := decode_sessionRequested_eq_ok h
      exact ⟨rfl, rfl⟩
    | sendI => exact eq_encode_of_decodeIBlock h
    | awaitingResponse =>
      cases h
      exact eq_encode_decodeInbound cfg f
    | wtxAck => exact eq_encode_of_decodeSWtxAck h
    | deselecting => exact eq_encode_of_decodeSDeselect h
    | deselAck =>
      cases h
      exact ⟨rfl, rfl⟩

/-- Settles O3: by the two laws of the check bytes, and the arithmetic of the two halves of a 16-bit value. -/
theorem builtFramesAreValid : Obligations.BuiltFramesAreValid := by
  refine ⟨fun cfg b => ⟨valid_appendCrc cfg b, dataPart_appendCrc cfg b, appendCrc_length cfg b⟩, fun c => ?_⟩
  refine ⟨_, _, rfl, checkValue_crcBytes c, ?low, ?high⟩
  case low => simp
  case high =>
    have hlt := c.isLt
    rw [BitVec.extractLsb'_toNat, Nat.shiftRight_eq_div_pow]
    omega

/-- Settles O5: two rows that one word matched would agree on the bits both masks fix, and no two rows do. -/
theorem commandRowsAreDisjoint : Obligations.CommandRowsAreDisjoint := commandRows_disjoint

/-- Settles O6: a word that matched a row would have an opcode from 1 to 8 and zeros in `w[7:5]`. -/
theorem reservedWordsAreRejected : Obligations.ReservedWordsAreRejected := by
  intro w hreserved
  refine decodeCommand_of_no_match fun row hrow hw => ?_
  obtain ⟨hlow, hhigh, hzero⟩ := opcode_of_matches hrow hw
  omega

/-- Settles O44: the write of `DIN`, where the line has one, is a step of its own; the write of `CMD` runs the
command. -/
theorem assembledLineRunsItsCommand : Obligations.AssembledLineRunsItsCommand := by
  intro l s rest hinv hin hlen
  obtain ⟨w, hdec, hline⟩ := exists_word_of_line s.cfg l
  rw [hline] at hin ⊢
  cases hdata : asmData l with
  | none =>
    rw [hdata] at hin
    exact (runFor_one s).trans (step_of_commandWrite hinv.config hin hdec)
  | some b =>
    rw [hdata] at hin hlen
    calc runFor 2 s = runFor 1 _ := runFor_succ_of_next (dinWriteReplacesContent s b _ hinv.config hlen hin)
      _ = step _ := runFor_one _
      _ = _ := step_of_commandWrite hinv.config rfl hdec

/-- Settles O53: a recorded write is the write due in the state it starts from, answered or abandoned. -/
theorem everyWriteIsAWordOrAValidFrame : Obligations.EveryWriteIsAWordOrAValidFrame := by
  intro s t addr f a hinv h hhist
  obtain ⟨-, hpending, -⟩ := hinv.request
  obtain ⟨rfl, hf⟩ := outgoing_of_dueRequest_write (((step_effect h).recordsDue hpending).request_eq hhist)
  exact ⟨hinv.address, outgoing_valid hinv.config hf⟩

/-- Settles O9: each written word or frame is the encoding of the instruction it stands for. -/
theorem writtenWordsDecode : Obligations.WrittenWordsDecode := by
  have hword {w : Word32} {i : Instr} (h : encode Config.test i = .command w) : decodeCommand w = .ok i :=
    (decodeCommand_eq_ok_iff Config.test).mpr h
  have hblock : iBlockFrame Config.test true [0x90#8, 0x00#8] = [0x03#8, 0x90#8, 0x00#8, 0x2D#8, 0x53#8] := by
    decide +kernel
  refine ⟨hword rfl, hword rfl, hword rfl, hword rfl, hword rfl, ?iBlock, congrArg _ (decodeInbound_wtx _)⟩
  rw [← hblock]
  exact decodeIBlock_iBlockFrame (by decide) true (by decide)

/-- Settles O30: by the step of a write of `CMD`, for a word of a row and for any other. -/
theorem commandWriteRunsItsRow : Obligations.CommandWriteRunsItsRow :=
  fun _ _ _ hc hin => ⟨fun _ => step_of_commandWrite hc hin, fun _ => step_of_reservedWrite hc hin⟩

/-- Settles O32: by the step of an answered read, and the first byte the decoder goes by. -/
theorem answeredReadRunsItsFrame : Obligations.AnsweredReadRunsItsFrame := by
  intro s r rest hc hin served
  refine ⟨fun hfsm tail hr => ?wtx, fun hfsm hr => ?response, fun hfsm => ?deselAck⟩
  case wtx =>
    refine step_of_readOk hc hin (readLength_of_awaitingResponse hfsm) ?_
    rw [hfsm, hr]
    exact congrArg _ (decodeInbound_wtx tail)
  case response =>
    refine step_of_readOk hc hin (readLength_of_awaitingResponse hfsm) ?_
    rw [hfsm]
    exact congrArg _ (decodeInbound_of_notWtx (bne_iff_ne.mpr hr))
  case deselAck =>
    refine step_of_readOk hc hin (readLength_of_deselAck hfsm) ?_
    rw [hfsm]
    rfl

end Sys2Proof.Proofs
end

section
/-!
SUPPORT. The CRC as a linear map (spec/40_crc.md R100 to R105): a turn of the loop of R101 is linear over XOR, low bits
that are zero are only shifted out, and a polynomial whose top bit is set loses nothing. So the low byte of the
accumulator is worked off by itself (R102), and two check bytes are worked off as the one 16-bit value they stand for
(R105).
-/

namespace Sys2Proof.Machine

/-! ### The loop of R101 -/

theorem crcBit_of_low_set {poly c : Word16} (h : c.getLsbD 0 = true) : crcBit poly c = (c >>> 1) ^^^ poly := if_pos h

theorem crcBit_of_low_clear {poly c : Word16} (h : c.getLsbD 0 = false) : crcBit poly c = c >>> 1 :=
  if_neg (Bool.eq_false_iff.mp h)

theorem crcBit_xor (poly a b : Word16) : crcBit poly (a ^^^ b) = crcBit poly a ^^^ crcBit poly b := by
  have hshift : (a ^^^ b) >>> 1 = a >>> 1 ^^^ b >>> 1 := BitVec.ushiftRight_xor_distrib a b 1
  have hlow : (a ^^^ b).getLsbD 0 = (a.getLsbD 0 ^^ b.getLsbD 0) := BitVec.getLsbD_xor
  cases ha : a.getLsbD 0 <;> cases hb : b.getLsbD 0 <;> rw [ha, hb] at hlow
  case false.false => rw [crcBit_of_low_clear hlow, crcBit_of_low_clear ha, crcBit_of_low_clear hb, hshift]
  case false.true => rw [crcBit_of_low_set hlow, crcBit_of_low_clear ha, crcBit_of_low_set hb, hshift, BitVec.xor_assoc]
  case true.false => rw [crcBit_of_low_set hlow, crcBit_of_low_set ha, crcBit_of_low_clear hb, hshift]; ac_rfl
  case true.true =>
    rw [crcBit_of_low_clear hlow, crcBit_of_low_set ha, crcBit_of_low_set hb, hshift]
    calc a >>> 1 ^^^ b >>> 1 = a >>> 1 ^^^ b >>> 1 ^^^ (poly ^^^ poly) := by simp
      _ = a >>> 1 ^^^ poly ^^^ (b >>> 1 ^^^ poly) := by ac_rfl

theorem crcBits_xor (poly : Word16) (k : Nat) (a b : Word16) :
    crcBits poly k (a ^^^ b) = crcBits poly k a ^^^ crcBits poly k b := by
  induction k generalizing a b with
  | zero => rfl
  | succ k ih => rw [crcBits, crcBit_xor, ih]; rfl

theorem crcBits_add (poly : Word16) (j k : Nat) (c : Word16) :
    crcBits poly (j + k) c = crcBits poly k (crcBits poly j c) := by
  induction j generalizing c with
  | zero => rw [Nat.zero_add]; rfl
  | succ j ih => rw [Nat.succ_add, crcBits, ih]; rfl

theorem crcBits_zero (poly : Word16) (k : Nat) : crcBits poly k 0#16 = 0#16 := by
  induction k with
  | zero => rfl
  | succ k ih => exact ih

/-- Zero bits are only shifted out. -/
theorem crcBits_of_low_clear (poly : Word16) {k : Nat} {c : Word16} (h : ∀ i < k, c.getLsbD i = false) :
    crcBits poly k c = c >>> k := by
  induction k generalizing c with
  | zero => exact (BitVec.ushiftRight_zero c).symm
  | succ k ih =>
    have hlow : ∀ i < k, (c >>> 1).getLsbD i = false := fun i hi => by
      rw [BitVec.getLsbD_ushiftRight]
      exact h (1 + i) (by omega)
    rw [crcBits, crcBit_of_low_clear (h 0 (Nat.succ_pos k)), ih hlow, ← BitVec.shiftRight_add, Nat.add_comm]

/-- R100: the top bit of the polynomial shows where it was added, so no turn loses a bit. -/
theorem crcBit_eq_zero {poly c : Word16} (htop : poly.getLsbD 15 = true) (h : crcBit poly c = 0#16) : c = 0#16 := by
  cases hlow : c.getLsbD 0 with
  | true =>
    rw [crcBit_of_low_set hlow] at h
    have hclear : ((c >>> 1) ^^^ poly).getLsbD 15 = true := by
      rw [BitVec.getLsbD_xor, htop, BitVec.getLsbD_ushiftRight, BitVec.getLsbD_of_ge c 16 (by omega)]
      rfl
    rw [h] at hclear
    cases hclear
  | false =>
    rw [crcBit_of_low_clear hlow] at h
    refine BitVec.eq_of_getLsbD_eq fun i _ => ?_
    cases i with
    | zero => exact hlow
    | succ i => rw [Nat.add_comm, ← BitVec.getLsbD_ushiftRight, h, BitVec.getLsbD_zero, BitVec.getLsbD_zero]

theorem crcBits_eq_zero_iff {poly : Word16} (htop : poly.getLsbD 15 = true) (k : Nat) (c : Word16) :
    crcBits poly k c = 0#16 ↔ c = 0#16 := by
  refine ⟨fun h => ?_, fun h => h ▸ crcBits_zero poly k⟩
  induction k generalizing c with
  | zero => exact h
  | succ k ih => exact crcBit_eq_zero htop (ih _ h)

/-! ### The byte-at-a-time form (R102) -/

/-- Eight turns shift the high byte down and work the low byte off by itself. -/
theorem crcBits_eight (poly c : Word16) :
    crcBits poly 8 c = (c >>> 8) ^^^ crcBits poly 8 ((c.setWidth 8).setWidth 16) := by
  have hlow : ∀ i < 8, (c ^^^ (c.setWidth 8).setWidth 16).getLsbD i = false := fun i hi => by
    have hi' : i < 16 := by omega
    simp [hi, hi']
  have hhigh : (c ^^^ (c.setWidth 8).setWidth 16) >>> 8 = c >>> 8 := by
    refine BitVec.eq_of_getLsbD_eq fun i _ => ?_
    simp
  calc crcBits poly 8 c
      = crcBits poly 8 (c ^^^ (c.setWidth 8).setWidth 16 ^^^ (c.setWidth 8).setWidth 16) := by
        rw [BitVec.xor_assoc, BitVec.xor_self, BitVec.xor_zero]
    _ = _ := by rw [crcBits_xor, crcBits_of_low_clear poly hlow, hhigh]

/-- The value R102 gives for the low byte `x` of the accumulator, by evaluation of all 256. -/
theorem crcBits_eight_lowByte (x : Byte) :
    crcBits 0x8408#16 8 (x.setWidth 16) =
      ((x ^^^ (x <<< 4)).setWidth 16 <<< 8) ^^^ ((x ^^^ (x <<< 4)).setWidth 16 <<< 3) ^^^
        ((x ^^^ (x <<< 4)).setWidth 16 >>> 4) := by
  revert x
  decide +kernel

/-- R102: the byte-at-a-time step gives the value of eight turns of the loop. -/
theorem crcByteFast_eq_crcByte (c : Word16) (d : Byte) : crcByteFast c d = crcByte 0x8408#16 c d := by
  have hhigh : (c ^^^ d.setWidth 16) >>> 8 = c >>> 8 := by
    refine BitVec.eq_of_getLsbD_eq fun i _ => ?_
    simp
  have hlow : (c ^^^ d.setWidth 16).setWidth 8 = d ^^^ c.setWidth 8 := by
    rw [BitVec.setWidth_xor, BitVec.setWidth_setWidth_of_le d (by omega), BitVec.setWidth_eq, BitVec.xor_comm]
  rw [crcByte, crcBits_eight, hhigh, hlow, crcBits_eight_lowByte, crcByteFast]
  ac_rfl

/-! ### The residue (R105) -/

theorem crcReg_append (cfg : Config) (a b : Bytes) (seed : Word16) :
    crcReg cfg (a ++ b) seed = crcReg cfg b (crcReg cfg a seed) := List.foldl_append

/-- R52: two check bytes are worked off as the value they stand for. -/
theorem crcByte_crcByte (poly r : Word16) (lo hi : Byte) :
    crcByte poly (crcByte poly r lo) hi = crcBits poly 16 (r ^^^ checkValue lo hi) := by
  have hshifted : crcBits poly 8 (hi.setWidth 16 <<< 8) = hi.setWidth 16 := by
    rw [crcBits_of_low_clear poly fun i hi => by simp [hi]]
    refine BitVec.eq_of_getLsbD_eq fun i _ => ?_
    grind
  have hvalue : checkValue lo hi = lo.setWidth 16 ^^^ hi.setWidth 16 <<< 8 := by
    refine BitVec.eq_of_getLsbD_eq fun i _ => ?_
    grind [checkValue]
  calc crcByte poly (crcByte poly r lo) hi
      = crcBits poly 8 (crcBits poly 8 (r ^^^ lo.setWidth 16) ^^^ crcBits poly 8 (hi.setWidth 16 <<< 8)) := by
        rw [hshifted]; rfl
    _ = crcBits poly 8 (crcBits poly 8 (r ^^^ checkValue lo hi)) := by
        rw [← crcBits_xor, hvalue, BitVec.xor_assoc]
    _ = crcBits poly 16 (r ^^^ checkValue lo hi) := (crcBits_add poly 8 8 _).symm

/-- R105: the residue is 0 exactly where the last two bytes stand for the CRC of the bytes before them. -/
theorem crc16_append_eq_zero_iff {cfg : Config} (htop : cfg.crcPoly.getLsbD 15 = true) (b : Bytes) (lo hi : Byte)
    (seed : Word16) : crc16 cfg (b ++ [lo, hi]) seed = 0#16 ↔ crc16 cfg b seed = checkValue lo hi := by
  have hresidue : crcReg cfg (b ++ [lo, hi]) seed =
      crcBits cfg.crcPoly 16 (crcReg cfg b seed ^^^ checkValue lo hi) := by
    rw [crcReg_append, ← crcByte_crcByte]
    rfl
  rw [crc16, crc16, crcXorOut, BitVec.xor_zero, BitVec.xor_zero, hresidue, crcBits_eq_zero_iff htop,
    BitVec.xor_eq_zero_iff]

/-- R104: a string of at least 2 bytes is its data part and two check bytes. -/
theorem exists_dataPart_append {f : Bytes} (h : 2 ≤ f.length) :
    ∃ lo hi, f.drop (f.length - 2) = [lo, hi] ∧ f = dataPart f ++ [lo, hi] := by
  obtain ⟨lo, hi, hcheck⟩ : ∃ lo hi, f.drop (f.length - 2) = [lo, hi] :=
    List.length_eq_two.mp (by rw [List.length_drop]; omega)
  exact ⟨lo, hi, hcheck, by rw [← hcheck]; exact (List.take_append_drop _ f).symm⟩

/-- R105: validity is residue 0. -/
theorem valid_iff_residue {cfg : Config} (htop : cfg.crcPoly.getLsbD 15 = true) {f : Bytes} (h : 2 ≤ f.length) :
    valid cfg f = true ↔ crc16 cfg f cfg.crcSeed = 0#16 := by
  obtain ⟨lo, hi, hcheck, hf⟩ := exists_dataPart_append h
  calc valid cfg f = true ↔ crc16 cfg (dataPart f) cfg.crcSeed = checkValue lo hi := by
        rw [valid, hcheck]; exact beq_iff_eq
    _ ↔ crc16 cfg (dataPart f ++ [lo, hi]) cfg.crcSeed = 0#16 := (crc16_append_eq_zero_iff htop _ lo hi _).symm
    _ ↔ crc16 cfg f cfg.crcSeed = 0#16 := by rw [← hf]

end Sys2Proof.Machine
end

section
/-!
SUPPORT. The two commands of the CRC unit as acceptances (spec/40_crc.md R109, R110), and what a refused command leaves
of the last result (spec/42_session_fsm.md R150, spec/10_state.md R33, R37).
-/

namespace Sys2Proof.Machine

theorem exec_crc16 (seed : Word16) (s : State) :
    exec (.crc16 seed) s =
      acceptCommand 0x4#4 (fun u => (u.withCrc u.din seed).completeOk [] (crc16 u.cfg u.din seed)) s := rfl

theorem exec_validate (s : State) :
    exec .validate s =
      acceptCommand 0x8#4 (fun u => (u.crcOfCheck u.din).completeOk [] (flagWord (valid u.cfg u.din))) s := rfl

theorem acceptCommand_keeps_result {op : BitVec 4} {rule : State → State} {s : State} (hbusy : s.fsm ≠ .idle) :
    ∃ t, acceptCommand op rule s = .next t ∧ t.refused = true ∧ t.done = s.done ∧ t.vout = s.vout :=
  ⟨s.refuse .busyCommand, acceptCommand_of_busy hbusy, rfl, rfl, rfl⟩

end Sys2Proof.Machine
end

section
/-!
SUPPORT. The steps of `AWAITING_RESPONSE` (spec/42_session_fsm.md R160 to R165): of all the effects a step has there,
only that of a validated substantive response completes the command `OK`.
-/

namespace Sys2Proof.Machine

open Sys2Proof.Safety

/-- The Host sees a command completed without an error (R33, R205). -/
def State.completedOk (t : State) : Prop := t.done = true ∧ t.status = 0#3

theorem State.not_completedOk_of_done {t : State} (h : t.done = false) : ¬ t.completedOk :=
  fun ⟨hdone, _⟩ => Bool.false_ne_true (h.symm.trans hdone)

/-- R201: no error kind has the result code of `OK`. -/
theorem State.completeErr_not_completedOk (v : State) (k : ErrorKind) : ¬ (v.completeErr k).completedOk := by
  rintro ⟨-, hstatus⟩
  rw [State.completeErr_status] at hstatus
  cases k <;> cases hstatus

/-! ### Steps whose act brings no response -/

theorem CommandEffect.not_completedOk {w : Word32} {u t : State} (h : CommandEffect w u t) (hbusy : u.fsm ≠ .idle)
    (hdone : u.done = false) : ¬ t.completedOk := by
  obtain ⟨why, rfl⟩ := h.refused_of_busy hbusy
  exact State.not_completedOk_of_done hdone

theorem PortEffect.not_completedOk {act : Option Input} {u t : State} (h : PortEffect act u t)
    (hdone : u.done = false) : ¬ t.completedOk := by
  cases h with
  | readFailed n =>
    obtain ⟨-, heq⟩ | ⟨-, heq⟩ := readFailed_cases n u
    all_goals
      rw [heq]
      exact State.completeErr_not_completedOk _ _
  | reset => exact State.not_completedOk_of_done rfl
  | unchanged | refused | issued | issuedRefused | hostRead | dinWritten | waitDone =>
    exact State.not_completedOk_of_done hdone

/-! ### The frame read -/

/-- R161 to R163: a WTX request is served or ends the command with an error. -/
theorem handleWtx_not_completedOk {v : State} (hdone : v.done = false) (r : Bytes) :
    ¬ (handleWtx r v).completedOk := by
  obtain heq | ⟨b0, m, b2, b3, extra, -, ⟨-, heq⟩ | ⟨-, heq⟩⟩ := handleWtx_cases r v <;> rw [heq]
  · exact State.completeErr_not_completedOk _ _
  · obtain ⟨-, hserve⟩ | ⟨-, hserve⟩ := serveWtx_cases m (v.crcOfAccept [b0, m, b2, b3]) <;> rw [hserve]
    · exact State.not_completedOk_of_done (by simpa using hdone)
    · exact State.completeErr_not_completedOk _ _
  · exact State.completeErr_not_completedOk _ _

theorem execWtxRequest_not_completedOk {u t : State} {tail : Bytes} (h : exec (.wtxRequest tail) u = .next t)
    (hdone : u.done = false) : ¬ t.completedOk := by
  obtain ⟨-, hread⟩ := whenDue_next h
  obtain ⟨-, -, rfl⟩ | ⟨-, rfl⟩ | ⟨-, -, rfl⟩ := receiveFrame_next hread
  · exact handleWtx_not_completedOk (v := u.gotBytes u.cmdN.toNat (wtxMarker :: tail)) hdone _
  · exact State.not_completedOk_of_done hdone
  · exact State.not_completedOk_of_done hdone

/-- R106, R164, R165: a response that completes `OK` was accepted by the check, is as long as requested, and is given to
the Host without its check bytes. -/
theorem execSubstantiveResponse_completedOk {u t : State} {r : Bytes}
    (h : exec (.substantiveResponse r) u = .next t) (hdone : u.done = false) (hok : t.completedOk) :
    t.hist = u.hist ++ [⟨.read u.devAddr u.cmdN.toNat, some (.readOk r)⟩] ∧ u.frameAccepted r = true ∧
      r.length = u.cmdN.toNat ∧ t.dout = r.take (r.length - 2) := by
  obtain ⟨-, hread⟩ := whenDue_next h
  obtain ⟨hle, -, rfl⟩ | ⟨-, rfl⟩ | ⟨-, -, rfl⟩ := receiveFrame_next hread
  · obtain ⟨-, heq⟩ | ⟨hge, haccepted, heq⟩ | ⟨-, -, heq⟩ :=
      handleResponse_cases r (u.gotBytes u.cmdN.toNat r)
    · exact absurd (heq ▸ hok) (State.completeErr_not_completedOk _ _)
    · have hlen : r.length = u.cmdN.toNat := Nat.le_antisymm hle hge
      have hhist := ((gotBytes_records u u.cmdN.toNat r).then_none (handleResponse_frame r _).1).hist
      refine ⟨hhist, haccepted, hlen, ?_⟩
      rw [hlen]
      exact congrArg State.dout heq
    · exact absurd (heq ▸ hok) (State.completeErr_not_completedOk _ _)
  · exact absurd hok (State.not_completedOk_of_done hdone)
  · exact absurd hok (State.not_completedOk_of_done hdone)

/-! ### The step -/

/-- What a step in `AWAITING_RESPONSE` runs: the frame its read returned, a command, or no instruction. -/
theorem step_of_awaitingResponse {s t : State} (hc : configValid s.cfg = true) (hfsm : s.fsm = .awaitingResponse)
    (h : step s = .next t) :
    (∃ r, exec (decodeInbound r) (serve s) = .next t) ∨ (∃ w, CommandEffect w (serve s) t) ∨
      PortEffect s.inbox.head? (passTurn s) t := by
  rw [step_of_configValid hc] at h
  cases hx : fetch s with
  | none =>
    rw [hx] at h
    exact .inr (.inr (withoutInstruction_effect hx h))
  | some x =>
    rw [hx] at h
    dsimp only at h
    obtain ⟨w, rfl⟩ | ⟨f, hf, -⟩ | ⟨r, n, -, rfl⟩ := fetch_cases hx
    · refine .inr (.inl ⟨w, ?_⟩)
      split at h
      case h_1 i hi => exact exec_command_effect hi h
      case h_2 => cases h; exact notDecoded_command_effect w _
    · simp [State.outgoing, hfsm] at hf
    · rw [hfsm] at h
      exact .inl ⟨r, h⟩

end Sys2Proof.Machine
end

section
/-!
CERTIFICATE. The proofs of the statements of spec/40_crc.md: the byte-at-a-time form (R102), the residue (R105), worked
values (R101, R103, R104), the two commands of the CRC unit (R109, R110), and what the check lets through (R106).
-/

namespace Sys2Proof.Proofs

open Sys2Proof.Machine Sys2Proof.Safety

/-- Settles O1: eight turns of the loop work off the low byte by itself; a string is folded byte by byte. -/
theorem bytewiseCrcEqualsBitSerial : Obligations.BytewiseCrcEqualsBitSerial := by
  refine ⟨crcByteFast_eq_crcByte, fun cfg s seed hpoly => ?_⟩
  have hstep : crcByteFast = crcByte cfg.crcPoly := by
    rw [hpoly]
    exact funext₂ crcByteFast_eq_crcByte
  rw [hstep]
  rfl

/-- Settles O2: validity is residue 0, and appended check bytes are valid. -/
theorem crcResidueDecidesValidity : Obligations.CrcResidueDecidesValidity := by
  intro cfg hpoly
  have htop : cfg.crcPoly.getLsbD 15 = true := by rw [hpoly]; rfl
  refine ⟨fun b => ?_, fun f hlen => valid_iff_residue htop hlen⟩
  exact (valid_iff_residue htop (f := appendCrc cfg b) (by simp)).mp (valid_appendCrc cfg b)

/-- Settles O54: in `AWAITING_RESPONSE` only a substantive response can complete the command `OK`, and with the check on
what the check accepts is valid. -/
theorem onlyValidatedDataReachesTheHost : Obligations.OnlyValidatedDataReachesTheHost := by
  intro s t hinv hcheck hfsm h hdone hstatus
  have hok : t.completedOk := ⟨hdone, hstatus⟩
  have hbusy : s.fsm ≠ .idle := by simp [hfsm]
  obtain ⟨hdoneClear, -⟩ := hinv.latch
  have hbefore : s.done = false := hdoneClear hbusy
  obtain ⟨r, hread⟩ | ⟨w, hcommand⟩ | hport := step_of_awaitingResponse hinv.config hfsm h
  · by_cases hr : notWtx r = true
    · rw [decodeInbound_of_notWtx hr] at hread
      obtain ⟨hhist, haccepted, hlen, hdout⟩ := execSubstantiveResponse_completedOk hread hbefore hok
      have hvalid : valid s.cfg r = true := by simpa [State.frameAccepted, hcheck] using haccepted
      rw [serve_devAddr, hinv.address] at hhist
      exact ⟨r, hhist, hvalid, hlen, hdout, hr⟩
    · obtain ⟨tail, rfl⟩ : ∃ tail, r = wtxMarker :: tail := by simpa [notWtx, List.head?_eq_some_iff] using hr
      rw [decodeInbound_wtx] at hread
      exact absurd hok (execWtxRequest_not_completedOk hread hbefore)
  · exact absurd hok (hcommand.not_completedOk hbusy hbefore)
  · exact absurd hok (hport.not_completedOk hbefore)

/-- Settles O4: by evaluation of each vector. -/
theorem crcWorkedValues : Obligations.CrcWorkedValues := by
  refine ⟨?checkValue, ?deselect, ?wtxAck, ?iBlock, ?swapped, ?short⟩
  case short => rfl
  all_goals decide +kernel

/-- Settles O15: the word is the encoding of `CRC16`; the acceptance runs its rule in `IDLE` and refuses elsewhere. -/
theorem crc16CommandResult : Obligations.Crc16CommandResult := by
  intro seed s
  refine ⟨(decodeCommand_eq_ok_iff Config.test).mpr rfl, fun hidle => ?_, fun hbusy => ?_⟩
  · rw [exec_crc16, acceptCommand_of_idle hidle]
    rfl
  · rw [exec_crc16]
    exact acceptCommand_keeps_result hbusy

/-- Settles O16: as for `CRC16`; the check of `DIN` leaves only the accumulator changed. -/
theorem validateCommandResult : Obligations.ValidateCommandResult := by
  refine ⟨(decodeCommand_eq_ok_iff Config.test).mpr rfl, fun s => ⟨fun hidle => ?_, fun hbusy => ?_⟩⟩
  · obtain ⟨acc, hacc⟩ := crcOfCheck_eq { s with done := false, cmdOp := 0x8#4 } s.din
    refine ⟨acc, ?_⟩
    rw [exec_validate, acceptCommand_of_idle hidle, hacc]
    rfl
  · rw [exec_validate]
    exact acceptCommand_keeps_result hbusy

end Sys2Proof.Proofs
end

section
/-!
SUPPORT. The codec commands (spec/41_frame_codec.md R122, R125, R127): what each answers in `IDLE`, and the words
`0x0000mm06`, of which only that with `mm = 0` matches a row of the opcode map.
-/

namespace Sys2Proof.Machine

/-! ### The words of ENC_S (R125, R81) -/

/-- A word of two patterns makes the patterns agree where both masks look. -/
theorem patterns_agree_of_matches {n : Nat} {w m p m' p' : BitVec n} (h : w &&& m = p) (h' : w &&& m' = p') :
    p &&& m' = p' &&& m :=
  calc p &&& m' = w &&& m &&& m' := by rw [h]
    _ = w &&& m' &&& m := by rw [BitVec.and_assoc, BitVec.and_comm m, BitVec.and_assoc]
    _ = p' &&& m := by rw [h']

theorem and_lowByteMask (a : Word16) (b c : Byte) : (a ++ b ++ c) &&& 0x000000FF#32 = 0#24 ++ c :=
  calc (a ++ b ++ c) &&& 0x000000FF#32 = (a ++ b ++ c) &&& (0#16 ++ 0#8 ++ BitVec.allOnes 8) := rfl
    _ = (a &&& 0#16) ++ (b &&& 0#8) ++ (c &&& BitVec.allOnes 8) := by rw [BitVec.and_append, BitVec.and_append]
    _ = 0#24 ++ c := by rw [BitVec.and_zero, BitVec.and_zero, BitVec.and_allOnes]; rfl

/-- The one row for low byte `0x06` fixes the whole word: S(DESELECT) carries no multiplier. -/
theorem eq_encSDeselectWord_of_matches {row : CommandRow} (hrow : row ∈ commandRows) {w : Word32}
    (hw : w &&& row.mask = row.pattern) (hlow : w &&& 0x000000FF#32 = 0x00000006#32) : w = 0x00000006#32 := by
  have hfull : ∀ row ∈ commandRows, row.pattern &&& 0x000000FF#32 = 0x00000006#32 &&& row.mask →
      row.mask = 0xFFFFFFFF#32 ∧ row.pattern = 0x00000006#32 := by decide
  obtain ⟨hmask, hpattern⟩ := hfull row hrow (patterns_agree_of_matches hw hlow)
  rw [hmask, hpattern] at hw
  exact ((and_wordMask_eq_iff w _).mp hw).symm

/-! ### The acceptances in `IDLE` (R122, R125, R127) -/

/-- R120: an I-block whose frame would pass the ceiling is not encoded. -/
theorem encodeI_eq_none {cfg : Config} {t : Bool} {p : Bytes} (h : cfg.maxFrame < p.length + 3) :
    encodeI cfg t p = none := if_pos h

theorem exec_encI_of_fits {t : Bool} {s : State} (hidle : s.fsm = .idle) (hfits : s.din.length + 3 ≤ s.cfg.maxFrame) :
    exec (.encI t) s =
      .next ((({ s with done := false, cmdOp := 0x5#4 } : State).withCrc (iBlockPcb s.cfg t :: s.din)
        s.cfg.crcSeed).completeOk (iBlockFrame s.cfg t s.din) 0#16) := by
  have henc : encodeI s.cfg t s.din = some (iBlockFrame s.cfg t s.din) := encodeI_eq_some.mpr ⟨hfits, rfl⟩
  change execEncI t s = _
  rw [execEncI, acceptCommand_of_idle hidle, henc]

theorem exec_encI_of_overlong {t : Bool} {s : State} (hidle : s.fsm = .idle)
    (hlong : s.cfg.maxFrame < s.din.length + 3) :
    exec (.encI t) s =
      .next (({ s with done := false, cmdOp := 0x5#4 } : State).completeErr .payloadTooLarge) := by
  change execEncI t s = _
  rw [execEncI, acceptCommand_of_idle hidle, encodeI_eq_none hlong]

theorem exec_encSDeselect (s : State) :
    exec .encSDeselect s =
      acceptCommand 0x6#4
        (fun u => (u.withCrc [u.cfg.pcbSDeselect] u.cfg.crcSeed).completeOk (encodeSDeselect u.cfg) 0#16) s := rfl

theorem exec_encSWtx (m : Byte) (s : State) :
    exec (.encSWtx m) s =
      acceptCommand 0x6#4
        (fun u => (u.withCrc [u.cfg.pcbSWtx, m] u.cfg.crcSeed).completeOk (encodeSWtx u.cfg m) 0#16) s := rfl

theorem exec_isWtx (b : Byte) (s : State) :
    exec (.isWtx b) s = acceptCommand 0x7#4 (fun u => u.completeOk [] (flagWord (isWtxByte b))) s := rfl

/-- R123, R37: the flag word of the comparison with the marker. -/
theorem flagWord_isWtxByte (b : Byte) : flagWord (isWtxByte b) = if b = 0xF2#8 then 1#16 else 0#16 := by
  simp [flagWord, isWtxByte, wtxMarker]

end Sys2Proof.Machine
end

section
/-!
CERTIFICATE. The proofs of the statements of spec/41_frame_codec.md: the results of ENC_I (R122), ENC_S (R125) and
IS_WTX (R127).
-/

namespace Sys2Proof.Proofs

open Sys2Proof.Machine Sys2Proof.Safety

/-- Settles O17: the words are the encodings of `ENC_I`; the frame is built exactly where it fits the ceiling. -/
theorem encICommandResult : Obligations.EncICommandResult := by
  refine ⟨fun t => (decodeCommand_eq_ok_iff Config.test).mpr (by cases t <;> rfl),
    fun t s hidle => ⟨fun hfits => ?_, fun hlong => ?_⟩⟩
  · exact exec_encI_of_fits hidle hfits
  · have hphase : fsmCode s.fsm = 0#3 := by rw [hidle]; rfl
    rw [exec_encI_of_overlong hidle hlong, State.completeErr, hphase]
    rfl

/-- Settles O18: the two words are encodings of `ENC_S`; a word `0x0000mm06` that matched a row would have `mm = 0`. -/
theorem encSCommandResult : Obligations.EncSCommandResult := by
  refine ⟨(decodeCommand_eq_ok_iff Config.test).mpr rfl, fun m => (decodeCommand_eq_ok_iff Config.test).mpr rfl,
    fun m hm => ?rejected, fun m s hidle => ⟨?deselect, ?wtx⟩⟩
  case rejected =>
    refine decodeCommand_of_no_match fun row hrow hw => hm ?_
    have hword : 0#16 ++ m ++ 0x06#8 = 0#16 ++ 0#8 ++ 0x06#8 :=
      eq_encSDeselectWord_of_matches hrow hw (and_lowByteMask 0#16 m 0x06#8)
    obtain ⟨houter, -⟩ := bitVec_append_inj.mp hword
    obtain ⟨-, hzero⟩ := bitVec_append_inj.mp houter
    exact hzero
  case deselect =>
    rw [exec_encSDeselect, acceptCommand_of_idle hidle]
    rfl
  case wtx =>
    rw [exec_encSWtx, acceptCommand_of_idle hidle]
    rfl

/-- Settles O19: the word is the encoding of `IS_WTX`; the acceptance leaves the flag word of the comparison. -/
theorem isWtxCommandResult : Obligations.IsWtxCommandResult := by
  refine ⟨fun b => (decodeCommand_eq_ok_iff Config.test).mpr rfl, fun b s hidle => ?_⟩
  rw [exec_isWtx, acceptCommand_of_idle hidle, flagWord_isWtxByte]
  rfl

end Sys2Proof.Proofs
end

section
/-!
SUPPORT. The transfers and the checks of a read frame as equations: what a write step does with each answer, what a read
step does with bytes that fit, and what each check does where its condition is known (spec/42_session_fsm.md R155, R161
to R165, R173).
-/

namespace Sys2Proof.Machine

open Sys2Proof.Safety

/-! ### The transfers (R55, R56, R155) -/

theorem sendFrame_of_ok {f : Bytes} {s : State} (hfits : f.length ≤ s.cfg.maxFrame) (hport : s.answer = some .writeOk)
    (before onError onOk : State → State) :
    sendFrame f before onError onOk s =
      .next (onOk ({ before s with txbuf := f }.record (.write s.devAddr f) .writeOk)) := by
  simp only [sendFrame, loadBuffer_of_fits hfits, hport]

theorem sendFrame_of_error {f : Bytes} {s : State} (hfits : f.length ≤ s.cfg.maxFrame) (hport : s.answer = some .error)
    (before onError onOk : State → State) :
    sendFrame f before onError onOk s =
      .next (onError ({ before s with txbuf := f }.record (.write s.devAddr f) .error)) := by
  simp only [sendFrame, loadBuffer_of_fits hfits, hport]

theorem sendFrame_of_unissued {f : Bytes} {s : State} (hfits : f.length ≤ s.cfg.maxFrame) (hport : s.answer = none)
    (hpending : s.pending = none) (before onError onOk : State → State) :
    sendFrame f before onError onOk s = .next (s.issue (.write s.devAddr f)) := by
  simp only [sendFrame, loadBuffer_of_fits hfits, hport, hpending, if_true]

theorem receiveFrame_of_fits {n : Nat} {r : Bytes} {s : State} (hlen : r.length ≤ n) (hcap : r.length ≤ s.rxcap)
    (handle : State → State) : receiveFrame n r handle s = .next (handle (s.gotBytes n r)) := by
  rw [receiveFrame, if_neg (Nat.not_lt.mpr hlen), loadBuffer_of_fits hcap]
  rfl

/-! ### The check of an inbound frame (R104, R106) -/

theorem frameAccepted_iff {s : State} {f : Bytes} :
    s.frameAccepted f = true ↔ (s.cfg.rxCrcCheck = true → valid s.cfg f = true) := by
  cases h : s.cfg.rxCrcCheck <;> simp [State.frameAccepted, h]

theorem frameAccepted_eq_false_iff {s : State} {f : Bytes} :
    s.frameAccepted f = false ↔ s.cfg.rxCrcCheck = true ∧ valid s.cfg f = false := by
  cases h : s.cfg.rxCrcCheck <;> simp [State.frameAccepted, h]

theorem crcOfAccept_of_long {f : Bytes} (hlen : 2 ≤ f.length) (s : State) :
    s.crcOfAccept f =
      { s with crcAcc := if s.cfg.rxCrcCheck then crcReg s.cfg (dataPart f) s.cfg.crcSeed else s.crcAcc } := by
  simp only [State.crcOfAccept, State.crcOfCheck, if_pos hlen]
  split
  · rfl
  · rfl

/-- The two ways to say that only the accumulator changes, and only where the check is on. -/
theorem State.ite_crcAcc (check : Bool) (s : State) (c : Word16) :
    (if check then { s with crcAcc := c } else s) = { s with crcAcc := if check then c else s.crcAcc } := by
  cases check <;> rfl

/-! ### WTX requests (R161 to R163) -/

theorem withinWtxBound_iff {s : State} {d : Nat} :
    withinWtxBound s d = true ↔
      boundAdmits s.cfg.wtxMaxRetries (s.wtxCnt + 1) = true ∧ boundAdmits s.cfg.wtxMaxWait (s.wtxTotal + d) = true :=
  Bool.and_eq_true_iff

theorem serveWtx_of_within {m : Byte} {s : State} (h : withinWtxBound s (s.cfg.wtxBaseUnit * m.toNat) = true) :
    serveWtx m s = { s with
      wtxM := m, wtxCnt := s.wtxCnt + 1, wtxTotal := s.wtxTotal + s.cfg.wtxBaseUnit * m.toNat, fsm := .wtxWait } :=
  if_pos h

theorem serveWtx_of_past {m : Byte} {s : State} (h : withinWtxBound s (s.cfg.wtxBaseUnit * m.toNat) = false) :
    serveWtx m s = s.completeErr .timeout :=
  if_neg (Bool.eq_false_iff.mp h)

theorem handleWtx_of_short {r : Bytes} (h : r.length < 4) (s : State) :
    handleWtx r s = s.completeErr .responseTooShort := by
  rcases r with _ | ⟨b0, _ | ⟨m, _ | ⟨b2, _ | ⟨b3, extra⟩⟩⟩⟩
  case cons.cons.cons.cons => simp only [List.length_cons] at h; omega
  all_goals rfl

theorem handleWtx_of_accepted {b0 m b2 b3 : Byte} {s : State} (h : s.frameAccepted [b0, m, b2, b3] = true)
    (extra : Bytes) : handleWtx (b0 :: m :: b2 :: b3 :: extra) s = serveWtx m (s.crcOfAccept [b0, m, b2, b3]) :=
  if_pos h

theorem handleWtx_of_rejected {b0 m b2 b3 : Byte} {s : State} (h : s.frameAccepted [b0, m, b2, b3] = false)
    (extra : Bytes) :
    handleWtx (b0 :: m :: b2 :: b3 :: extra) s = (s.crcOfAccept [b0, m, b2, b3]).completeErr .checksumMismatch :=
  if_neg (Bool.eq_false_iff.mp h)

/-! ### Responses and acknowledgements (R164, R165, R173) -/

theorem handleResponse_of_short {r : Bytes} {s : State} (h : r.length < s.cmdN.toNat) :
    handleResponse r s = s.completeErr .responseTooShort := if_pos h

theorem handleResponse_of_accepted {r : Bytes} {s : State} (hlen : r.length = s.cmdN.toNat)
    (h : s.frameAccepted r = true) :
    handleResponse r s = (s.crcOfAccept r).completeOk (r.take (r.length - 2)) 0#16 := by
  rw [handleResponse, if_neg (by omega), if_pos h, hlen, decodeResponse]

theorem handleResponse_of_rejected {r : Bytes} {s : State} (hlen : r.length = s.cmdN.toNat)
    (h : s.frameAccepted r = false) : handleResponse r s = (s.crcOfAccept r).completeErr .checksumMismatch := by
  rw [handleResponse, if_neg (by omega), if_neg (Bool.eq_false_iff.mp h)]

theorem handleDeselAck_of_short {r : Bytes} {s : State} (h : r.length < s.cfg.deselAckLen) :
    handleDeselAck r s = s.sessionReset.completeErr .responseTooShort := if_pos h

theorem handleDeselAck_of_accepted {r : Bytes} {s : State} (hlen : r.length = s.cfg.deselAckLen)
    (h : s.frameAccepted r = true) :
    handleDeselAck r s = (s.crcOfAccept r).sessionReset.completeOk [] 0#16 := by
  rw [handleDeselAck, if_neg (by omega), if_pos h]

theorem handleDeselAck_of_rejected {r : Bytes} {s : State} (hlen : r.length = s.cfg.deselAckLen)
    (h : s.frameAccepted r = false) :
    handleDeselAck r s = (s.crcOfAccept r).sessionReset.completeErr .checksumMismatch := by
  rw [handleDeselAck, if_neg (by omega), if_neg (Bool.eq_false_iff.mp h)]

end Sys2Proof.Machine
end

section
/-!
SUPPORT. The meaning of each frame where it is due, by what came on the port: for an outbound frame the answer of its
write, for an inbound one bytes no longer than asked (spec/42_session_fsm.md R156, R158, R160, R167, R172, R173).
-/

namespace Sys2Proof.Machine

open Sys2Proof.Safety

/-- R72: the toggle is bit 0 of the PCB. -/
theorem iBlockPcb_eq (cfg : Config) (t : Bool) :
    iBlockPcb cfg t = if t then cfg.iPcbBase ||| 1#8 else cfg.iPcbBase := by
  cases t
  · exact BitVec.or_zero
  · rfl

/-- R205: an error is reported with the code of the Engine state of the failing step. -/
theorem State.completeErr_eq {s : State} {phase : BitVec 3} (h : fsmCode s.fsm = phase) (k : ErrorKind) :
    s.completeErr k = { s with
      status := errorCode k, errPhase := phase, dout := [], vout := 0#16, done := true, fsm := .idle } := by
  subst h
  rfl

/-- R150, R205: an error at acceptance leaves the Engine in `IDLE`, where it was, and has `err_phase` 0. -/
theorem State.completeErr_of_idle {s : State} (h : s.fsm = .idle) (k : ErrorKind) :
    s.completeErr k = { s with status := errorCode k, errPhase := 0#3, dout := [], vout := 0#16, done := true } := by
  cases s with
  | mk fsm => cases h; rfl

/-! ### Commands (R150, R153) -/

theorem exec_openSession (s : State) :
    exec .openSession s = acceptCommand 0x1#4 (fun u =>
      { u with
        tog := false, sreq := true
        wtxCnt := 0, wtxTotal := 0, wtxM := 0#8
        rxcap := 0, rxbuf := [], txbuf := [], pl := [], cmdN := 0#16 }.completeOk [] 0#16) s := rfl

theorem exec_deselect (s : State) :
    exec .deselect s = acceptCommand 0x3#4
      (fun u => { u with rxcap := max u.rxcap u.cfg.deselAckLen, fsm := .deselecting }) s := rfl

theorem exec_exchange {n : Word16} {s : State} (h : ¬ (s.fsm = .idle ∧ n.toNat < 3)) :
    exec (.exchange n) s = acceptCommand 0x2#4 (acceptExchange n) s := if_neg h

theorem acceptExchange_of_fits {n : Word16} {s : State} (h : s.din.length + 3 ≤ s.cfg.maxFrame) :
    acceptExchange n s = { s with
      pl := s.din, cmdN := n, rxcap := max s.rxcap n.toNat, wtxCnt := 0, wtxTotal := 0
      fsm := if s.sreq then .sessionRequested else .sendI } := if_neg (by omega)

theorem acceptExchange_of_overlong {n : Word16} {s : State} (h : s.cfg.maxFrame < s.din.length + 3) :
    acceptExchange n s = s.completeErr .payloadTooLarge := if_pos h

/-! ### Outbound frames -/

theorem exec_sessionRequestWord {s : State} (hfsm : s.fsm = .sessionRequested) :
    exec .sessionRequestWord s = sendFrame s.cfg.sreqWord id (fun u => u.completeErr .transportError)
      (fun u => { u with sreq := u.sreq && u.cfg.sreqPersist, fsm := .sendI }) s := whenDue_of hfsm

theorem exec_dueIBlock {s : State} (hfsm : s.fsm = .sendI) :
    exec (iBlockInstr s.tog s.pl) s = sendFrame (iBlockFrame s.cfg s.tog s.pl)
      (fun u => { u.withCrc (iBlockPcb s.cfg s.tog :: s.pl) s.cfg.crcSeed with tog := !u.tog })
      (fun u => u.completeErr .transportError) (fun u => { u with fsm := .awaitingResponse }) s := by
  rw [exec_iBlockInstr, sendIBlock]
  exact whenDue_of ⟨hfsm, rfl, rfl⟩

theorem exec_dueWtxAck {s : State} (hfsm : s.fsm = .wtxAck) :
    exec (.sWtxAck s.wtxM) s = sendFrame (encodeSWtx s.cfg s.wtxM)
      (fun u => u.withCrc [u.cfg.pcbSWtx, s.wtxM] u.cfg.crcSeed)
      (fun u => u.completeErr .transportError) (fun u => { u with fsm := .awaitingResponse }) s :=
  whenDue_of ⟨hfsm, rfl⟩

theorem exec_sDeselect {s : State} (hfsm : s.fsm = .deselecting) :
    exec .sDeselect s = sendFrame (encodeSDeselect s.cfg) (fun u => u.withCrc [u.cfg.pcbSDeselect] u.cfg.crcSeed)
      (fun u => u.sessionReset.completeErr .transportError) (fun u => { u with fsm := .deselAck }) s :=
  whenDue_of hfsm

/-- R6: the bytes of S(DESELECT) with the values of the source. -/
theorem appendCrc_pcbSDeselect {cfg : Config} (h : cfg.sourceValues = true) :
    appendCrc cfg [cfg.pcbSDeselect] = [0xC2#8, 0xE0#8, 0xB4#8] := by
  obtain ⟨hpoly, hseed, hpcb, -⟩ := of_decide_eq_true h
  have hbytes : [0xC2#8] ++ crcBytes ([0xC2#8].foldl (crcByte 0x8408#16) 0x6363#16 ^^^ crcXorOut) =
      [0xC2#8, 0xE0#8, 0xB4#8] := by decide +kernel
  simpa only [appendCrc, crc16, crcReg, hpoly, hseed, hpcb] using hbytes

/-! ### Inbound frames -/

theorem exec_wtxRequest {tail : Bytes} {s : State} (hfsm : s.fsm = .awaitingResponse)
    (hlen : tail.length + 1 ≤ s.cmdN.toNat) (hcap : s.cmdN.toNat ≤ s.rxcap) :
    exec (.wtxRequest tail) s =
      .next (handleWtx (wtxMarker :: tail) (s.gotBytes s.cmdN.toNat (wtxMarker :: tail))) :=
  (whenDue_of hfsm).trans (receiveFrame_of_fits hlen (Nat.le_trans hlen hcap) _)

theorem exec_substantiveResponse {r : Bytes} {s : State} (hfsm : s.fsm = .awaitingResponse)
    (hlen : r.length ≤ s.cmdN.toNat) (hcap : s.cmdN.toNat ≤ s.rxcap) :
    exec (.substantiveResponse r) s = .next (handleResponse r (s.gotBytes s.cmdN.toNat r)) :=
  (whenDue_of hfsm).trans (receiveFrame_of_fits hlen (Nat.le_trans hlen hcap) _)

theorem exec_deselectAck {r : Bytes} {s : State} (hfsm : s.fsm = .deselAck)
    (hlen : r.length ≤ s.cfg.deselAckLen) (hcap : s.cfg.deselAckLen ≤ s.rxcap) :
    exec (.deselectAck r) s = .next (handleDeselAck r (s.gotBytes s.cfg.deselAckLen r)) :=
  (whenDue_of hfsm).trans (receiveFrame_of_fits hlen (Nat.le_trans hlen hcap) _)

theorem eq_cons_cons_cons_of_three_le {tail : Bytes} (h : 3 ≤ tail.length) :
    ∃ m b2 b3 extra, tail = m :: b2 :: b3 :: extra := by
  match tail, h with
  | m :: b2 :: b3 :: extra, _ => exact ⟨m, b2, b3, extra, rfl⟩

/-- R161: the check of a WTX request is of its first four bytes. -/
theorem exec_wtxRequest_of_accepted {m b2 b3 : Byte} {extra : Bytes} {s : State} (hfsm : s.fsm = .awaitingResponse)
    (hlen : extra.length + 4 ≤ s.cmdN.toNat) (hcap : s.cmdN.toNat ≤ s.rxcap)
    (h : s.frameAccepted [wtxMarker, m, b2, b3] = true) :
    exec (.wtxRequest (m :: b2 :: b3 :: extra)) s =
      .next (serveWtx m ((s.gotBytes s.cmdN.toNat (wtxMarker :: m :: b2 :: b3 :: extra)).crcOfAccept
        [wtxMarker, m, b2, b3])) :=
  (exec_wtxRequest (tail := m :: b2 :: b3 :: extra) hfsm hlen hcap).trans
    (congrArg _ (handleWtx_of_accepted (s := s.gotBytes _ _) h extra))

theorem exec_wtxRequest_of_rejected {m b2 b3 : Byte} {extra : Bytes} {s : State} (hfsm : s.fsm = .awaitingResponse)
    (hlen : extra.length + 4 ≤ s.cmdN.toNat) (hcap : s.cmdN.toNat ≤ s.rxcap)
    (h : s.frameAccepted [wtxMarker, m, b2, b3] = false) :
    exec (.wtxRequest (m :: b2 :: b3 :: extra)) s =
      .next (((s.gotBytes s.cmdN.toNat (wtxMarker :: m :: b2 :: b3 :: extra)).crcOfAccept
        [wtxMarker, m, b2, b3]).completeErr .checksumMismatch) :=
  (exec_wtxRequest (tail := m :: b2 :: b3 :: extra) hfsm hlen hcap).trans
    (congrArg _ (handleWtx_of_rejected (s := s.gotBytes _ _) h extra))

/-- R165: an accepted response of the requested length. -/
theorem exec_substantiveResponse_of_accepted {r : Bytes} {s : State} (hfsm : s.fsm = .awaitingResponse)
    (hlen : r.length = s.cmdN.toNat) (hcap : s.cmdN.toNat ≤ s.rxcap) (h : s.frameAccepted r = true) :
    exec (.substantiveResponse r) s =
      .next (((s.gotBytes s.cmdN.toNat r).crcOfAccept r).completeOk (r.take (r.length - 2)) 0#16) :=
  (exec_substantiveResponse hfsm hlen.le hcap).trans
    (congrArg _ (handleResponse_of_accepted (s := s.gotBytes _ r) hlen h))

/-- R173: an accepted acknowledgement of the length asked for. -/
theorem exec_deselectAck_of_accepted {r : Bytes} {s : State} (hfsm : s.fsm = .deselAck)
    (hlen : r.length = s.cfg.deselAckLen) (hcap : s.cfg.deselAckLen ≤ s.rxcap) (h : s.frameAccepted r = true) :
    exec (.deselectAck r) s =
      .next (((s.gotBytes s.cfg.deselAckLen r).crcOfAccept r).sessionReset.completeOk [] 0#16) :=
  (exec_deselectAck hfsm hlen.le hcap).trans (congrArg _ (handleDeselAck_of_accepted (s := s.gotBytes _ r) hlen h))

end Sys2Proof.Machine
end

section
/-!
CERTIFICATE. The proofs of the statements of spec/42_session_fsm.md about one instruction: the session commands at
acceptance (R150 to R153, R171), and what each frame does in the state that sends or reads it (R156 to R167, R172,
R173).
-/

namespace Sys2Proof.Proofs

open Sys2Proof.Machine Sys2Proof.Safety

/-- Settles O10: EXCHANGE tests its expected length only in `IDLE`, so each of the nine commands goes to the acceptance,
which refuses a busy Engine; the frames are no commands. -/
theorem busyCommandIsRefused : Obligations.BusyCommandIsRefused := by
  intro i s hi hbusy
  cases i with
  | exchange n => exact (exec_exchange fun h => hbusy h.1).trans (acceptCommand_of_busy hbusy)
  | iBlockToggle0 | iBlockToggle1 | sDeselect | sWtxAck | sessionRequestWord | wtxRequest | substantiveResponse
  | deselectAck => cases hi
  | openSession | deselect | crc16 | encI | encSDeselect | encSWtx | isWtx | validate =>
    dsimp only [exec, execOpenSession, execDeselect, execCrc16, execEncI, execEncSDeselect, execEncSWtx, execIsWtx,
      execValidate]
    exact acceptCommand_of_busy hbusy

/-- Settles O11: the word is the encoding of OPEN, and its acceptance in `IDLE` is the rule of R152. -/
theorem openStartsAFreshSession : Obligations.OpenStartsAFreshSession :=
  ⟨(decodeCommand_eq_ok_iff Config.test).mpr rfl,
    fun s hidle => (exec_openSession s).trans (acceptCommand_of_idle hidle)⟩

/-- Settles O12: by the two branches of the acceptance rule; a payload too large leaves the Engine in `IDLE`. -/
theorem exchangeAcceptance : Obligations.ExchangeAcceptance := by
  intro n s hidle hn
  rw [exec_exchange (by omega), acceptCommand_of_idle hidle]
  refine ⟨fun hfits => ?_, fun hlong => ?_⟩
  · exact congrArg _ (acceptExchange_of_fits hfits)
  · rw [acceptExchange_of_overlong (by exact hlong)]
    exact congrArg _ (State.completeErr_of_idle (by exact hidle) _)

/-- Settles O13: in `IDLE` the expected length is tested before the acceptance writes anything. -/
theorem shortExchangeIsRefused : Obligations.ShortExchangeIsRefused :=
  fun _ _ hidle hshort => if_pos ⟨hidle, hshort⟩

/-- Settles O14: the acceptance of DESELECT in `IDLE` is the rule of R171. -/
theorem deselectAcceptance : Obligations.DeselectAcceptance :=
  fun s hidle => (exec_deselect s).trans (acceptCommand_of_idle hidle)

/-- Settles O20: the write transfer of the session-request word with each of its answers. -/
theorem sessionRequestStep : Obligations.SessionRequestStep := by
  intro s hfsm hfits
  have hphase : fsmCode s.fsm = 1#3 := congrArg fsmCode hfsm
  rw [exec_sessionRequestWord hfsm]
  refine ⟨fun hok => ?_, fun herror => ?_⟩
  · have hflag : (if s.cfg.sreqPersist then s.sreq else false) = (s.sreq && s.cfg.sreqPersist) := by
      cases s.cfg.sreqPersist <;> simp
    rw [sendFrame_of_ok hfits hok, hflag]
    rfl
  · rw [sendFrame_of_error hfits herror]
    exact congrArg _ (State.completeErr_eq (by exact hphase) _)

/-- Settles O21: the write transfer of the I-block; the toggle flips before the answer, so with each. -/
theorem iBlockStep : Obligations.IBlockStep := by
  intro t p s hfsm htog hpl hlen
  subst htog hpl
  rw [← iBlockPcb_eq]
  have hphase : fsmCode s.fsm = 2#3 := congrArg fsmCode hfsm
  have hfits : (iBlockFrame s.cfg s.tog s.pl).length ≤ s.cfg.maxFrame := by rwa [iBlockFrame_length]
  have hexec := exec_dueIBlock hfsm
  refine ⟨fun hok => hexec.trans (sendFrame_of_ok hfits hok _ _ _), fun herror => ?_⟩
  exact (hexec.trans (sendFrame_of_error hfits herror _ _ _)).trans
    (congrArg _ (State.completeErr_eq (by exact hphase) _))

/-- Settles O22: the write transfer of the acknowledgement with the latched multiplier. -/
theorem wtxAckStep : Obligations.WtxAckStep := by
  intro m s hfsm hm hmin
  subst hm
  have hphase : fsmCode s.fsm = 5#3 := congrArg fsmCode hfsm
  have hfits : (encodeSWtx s.cfg s.wtxM).length ≤ s.cfg.maxFrame := by simpa [encodeSWtx] using hmin
  have hexec := exec_dueWtxAck hfsm
  refine ⟨fun hok => hexec.trans (sendFrame_of_ok hfits hok _ _ _), fun herror => ?_⟩
  exact (hexec.trans (sendFrame_of_error hfits herror _ _ _)).trans
    (congrArg _ (State.completeErr_eq (by exact hphase) _))

/-- Settles O23: the write transfer of S(DESELECT); its bytes by evaluation of the CRC of one byte. -/
theorem deselectStep : Obligations.DeselectStep := by
  intro s hfsm hmin
  have hphase : fsmCode s.fsm = 6#3 := congrArg fsmCode hfsm
  have hfits : (encodeSDeselect s.cfg).length ≤ s.cfg.maxFrame := by
    simpa [encodeSDeselect] using Nat.le_of_lt hmin
  have hexec := exec_sDeselect hfsm
  refine ⟨appendCrc_pcbSDeselect, fun hok => hexec.trans (sendFrame_of_ok hfits hok _ _ _), fun herror => ?_⟩
  exact (hexec.trans (sendFrame_of_error hfits herror _ _ _)).trans
    (congrArg _ (State.completeErr_eq (by exact hphase) _))

/-- Settles O24: the request passes the three checks of R161 and R162, so it is accepted for service. -/
theorem wtxRequestIsServed : Obligations.WtxRequestIsServed := by
  intro m b2 b3 extra s hfsm hlen hcap hvalid hcount htotal r
  have hwithin : withinWtxBound s (s.cfg.wtxBaseUnit * m.toNat) = true := withinWtxBound_iff.mpr ⟨hcount, htotal⟩
  rw [exec_wtxRequest_of_accepted hfsm hlen hcap (frameAccepted_iff.mpr hvalid), crcOfAccept_of_long (by simp)]
  exact congrArg _ (serveWtx_of_within (by exact hwithin))

/-- Settles O25: one check of R161 and R162 fails, those before it having passed. -/
theorem wtxRequestFailures : Obligations.WtxRequestFailures := by
  intro tail s hfsm hlen hcap r mult read checked
  have hphase : fsmCode s.fsm = 3#3 := congrArg fsmCode hfsm
  have hchecked : checked = _ := State.ite_crcAcc _ read _
  rw [hchecked]
  refine ⟨fun hshort => ?short, fun hlong hcheck hinvalid => ?invalid, fun hlong hvalid hpast => ?past⟩
  case short =>
    rw [exec_wtxRequest hfsm hlen hcap, handleWtx_of_short (by simp; omega)]
    exact congrArg _ (State.completeErr_eq (by exact hphase) _)
  case invalid =>
    obtain ⟨m, b2, b3, extra, rfl⟩ := eq_cons_cons_cons_of_three_le hlong
    rw [exec_wtxRequest_of_rejected hfsm hlen hcap (frameAccepted_eq_false_iff.mpr ⟨hcheck, hinvalid⟩),
      crcOfAccept_of_long (by simp)]
    exact congrArg _ (State.completeErr_eq (by exact hphase) _)
  case past =>
    obtain ⟨m, b2, b3, extra, rfl⟩ := eq_cons_cons_cons_of_three_le hlong
    have hbound : withinWtxBound s (s.cfg.wtxBaseUnit * m.toNat) = false := Bool.and_eq_false_iff.mpr hpast
    rw [exec_wtxRequest_of_accepted hfsm hlen hcap (frameAccepted_iff.mpr hvalid), crcOfAccept_of_long (by simp)]
    refine congrArg _ ((serveWtx_of_past (by exact hbound)).trans ?_)
    exact (State.completeErr_eq (by exact hphase) _)

/-- Settles O26: by the length and the check of the response, in this order. -/
theorem responseStep : Obligations.ResponseStep := by
  intro r s hfsm hlen hcap hmin read checked
  have hphase : fsmCode s.fsm = 3#3 := congrArg fsmCode hfsm
  have hchecked : checked = _ := State.ite_crcAcc _ read _
  rw [hchecked]
  refine ⟨fun hfull hvalid => ?ok, fun hshort => ?short, fun hfull hcheck hinvalid => ?invalid⟩
  case ok =>
    rw [exec_substantiveResponse_of_accepted hfsm hfull hcap (frameAccepted_iff.mpr hvalid),
      crcOfAccept_of_long (by omega)]
    rfl
  case short =>
    rw [exec_substantiveResponse hfsm hlen hcap, handleResponse_of_short (s := s.gotBytes _ r) hshort]
    exact congrArg _ (State.completeErr_eq (by exact hphase) _)
  case invalid =>
    rw [exec_substantiveResponse hfsm hlen hcap,
      handleResponse_of_rejected (s := s.gotBytes _ r) hfull (frameAccepted_eq_false_iff.mpr ⟨hcheck, hinvalid⟩),
      crcOfAccept_of_long (by omega)]
    exact congrArg _ (State.completeErr_eq (by exact hphase) _)

/-- Settles O27: by the length and the check of the acknowledgement; the session is reset in each case. -/
theorem deselectAckStep : Obligations.DeselectAckStep := by
  intro r s hfsm hlen hcap hmin read checked
  have hphase : fsmCode s.fsm = 7#3 := congrArg fsmCode hfsm
  have hchecked : checked = _ := State.ite_crcAcc _ read _
  rw [hchecked]
  refine ⟨fun hfull hvalid => ?ok, fun hshort => ?short, fun hfull hcheck hinvalid => ?invalid⟩
  case ok =>
    rw [exec_deselectAck_of_accepted hfsm hfull hcap (frameAccepted_iff.mpr hvalid), crcOfAccept_of_long (by omega)]
    rfl
  case short =>
    rw [exec_deselectAck hfsm hlen hcap, handleDeselAck_of_short (s := s.gotBytes _ r) hshort]
    exact congrArg _ (State.completeErr_eq (by exact hphase) _)
  case invalid =>
    rw [exec_deselectAck hfsm hlen hcap,
      handleDeselAck_of_rejected (s := s.gotBytes _ r) hfull (frameAccepted_eq_false_iff.mpr ⟨hcheck, hinvalid⟩),
      crcOfAccept_of_long (by omega)]
    exact congrArg _ (State.completeErr_eq (by exact hphase) _)

end Sys2Proof.Proofs
end

section
/-!
SUPPORT. The steps of a busy Engine by what stands first in `inbox` (spec/42_session_fsm.md R155): the answer of the
present request, an act of the Host, or nothing, where the Engine issues its request and then waits.
-/

namespace Sys2Proof.Machine

open Sys2Proof.Safety

/-! ### The answer of the present request (R155) -/

theorem serve_of_answer {s : State} {k : Nat} {a : Answer} {rest : List Input} (hin : s.inbox = .answer k a :: rest) :
    serve s = { s with inbox := rest, answer := some a } := by
  simp [serve, hin]

/-- The one instruction of a state that sends decodes from the frame it sends. -/
theorem decode_dueSend {s : State} (hc : configValid s.cfg = true) {f : Bytes} (hf : s.outgoing = some f) {i : Instr}
    (hi : s.dueSend = some i) : decode s.cfg (.frame s.fsm f) = .ok i := by
  obtain ⟨j, hj, hdec⟩ := decode_outgoing hc hf
  rw [hdec, Option.some.inj (hj.symm.trans hi)]

theorem step_of_fetch {s : State} {x : Fetched} {i : Instr} (hc : configValid s.cfg = true) (hx : fetch s = some x)
    (hdec : decode s.cfg x = .ok i) : step s = exec i (serve s) := by
  rw [step_of_configValid hc, hx]
  simp only [hdec]

/-- A write answered `OK` or `ERR` runs the frame of the present state. -/
theorem step_of_writeAnswer {s : State} {a : Answer} {rest : List Input} {f : Bytes} {i : Instr}
    (hc : configValid s.cfg = true) (hin : s.inbox = .answer s.hist.length a :: rest)
    (ha : a = .writeOk ∨ a = .error) (hf : s.outgoing = some f) (hi : s.dueSend = some i) :
    step s = exec i { s with inbox := rest, answer := some a } := by
  have htakes : Request.takes (.write s.devAddr f) a = true := by
    obtain rfl | rfl := ha
    · rfl
    · rfl
  have hfits : answerFits s s.hist.length a = true := answerFits_iff.mpr ⟨rfl, _, dueRequest_of_outgoing hf, htakes⟩
  have hfetch : fetch s = fetchSend s := by
    obtain rfl | rfl := ha
    · simp [fetch, hin, hfits]
    · simp [fetch, hin, hfits]
  rw [← serve_of_answer hin]
  exact step_of_fetch hc (hfetch.trans (fetchSend_eq_some.mpr ⟨f, hf, rfl⟩)) (decode_dueSend hc hf hi)

/-- R153: the payload of an EXCHANGE in progress fits a frame, so the Engine has its frame to send. -/
theorem outgoing_of_sendI {s : State} (hfsm : s.fsm = .sendI) (hlen : s.pl.length + 3 ≤ s.cfg.maxFrame) :
    s.outgoing = some (iBlockFrame s.cfg s.tog s.pl) := by
  rw [State.outgoing, hfsm]
  exact encodeI_eq_some.mpr ⟨hlen, rfl⟩

/-- A fitting answer that brings no frame: a failed read, or the Timer's completion. -/
theorem step_of_frameless_answer {s : State} {a : Answer} {rest : List Input} {q : Request}
    (hc : configValid s.cfg = true) (hin : s.inbox = .answer s.hist.length a :: rest) (hq : s.dueRequest = some q)
    (htakes : q.takes a = true) (hfetch : fetch s = none) :
    step s = .next (answeredWithoutFrame { s with inbox := rest, answer := some a }) := by
  have hfits : answerFits s s.hist.length a = true := answerFits_iff.mpr ⟨rfl, q, hq, htakes⟩
  rw [step_of_configValid hc, hfetch, ← serve_of_answer hin]
  simp [withoutInstruction, hin, hfits]

/-- R160, R173, R202: a failed read. -/
theorem step_of_failed_read {s : State} {rest : List Input} {n : Nat} (hc : configValid s.cfg = true)
    (hin : s.inbox = .answer s.hist.length .error :: rest) (hn : s.readLength = some n) :
    step s = .next (readFailed n { s with inbox := rest, answer := some .error }) := by
  have hsend : fetchSend s = none := by
    obtain hfsm | hfsm := fsm_of_readLength hn
    · simp [fetchSend, State.outgoing, hfsm]
    · simp [fetchSend, State.outgoing, hfsm]
  have hfetch : fetch s = none := by simp [fetch, hin, hsend]
  have hn' : ({ s with inbox := rest, answer := some .error } : State).readLength = some n := hn
  rw [step_of_frameless_answer hc hin (dueRequest_of_readLength hn) rfl hfetch, answeredWithoutFrame, hn']

/-- R166: the Timer completes the wait. -/
theorem step_of_timer {s : State} {rest : List Input} (hc : configValid s.cfg = true) (hfsm : s.fsm = .wtxWait)
    (hin : s.inbox = .answer s.hist.length .timer :: rest) :
    step s = .next (waitDone { s with inbox := rest, answer := some .timer }) := by
  have hdue : s.dueRequest = some (.wait s.waitTime) := by simp [State.dueRequest, hfsm]
  have hfetch : fetch s = none := by simp [fetch, hin]
  have hn : ({ s with inbox := rest, answer := some .timer } : State).readLength = none := by
    simp [State.readLength, hfsm]
  rw [step_of_frameless_answer hc hin hdue rfl hfetch, answeredWithoutFrame, hn]

/-! ### The Host (R40, R150) -/

/-- At most `DIN`, the value read and the mark with its reasons change. -/
def HostTouches (s t : State) : Prop :=
  t = { s with din := t.din, readout := t.readout, refused := t.refused, refusals := t.refusals }

theorem hostTouches_hostRead (reg : Nat) (s : State) : HostTouches s (hostReadRegister reg s) := by
  obtain ⟨v, h⟩ | h := hostReadRegister_cases reg s
  · rw [h]; rfl
  · rw [h]; rfl

theorem hostTouches_hostWriteData (reg : Nat) (v : PortValue) (s : State) :
    HostTouches s (hostWriteData reg v s) := by
  obtain ⟨b, -, -, -, h⟩ | h := hostWriteData_cases reg v s
  · rw [h]; rfl
  · rw [h]; rfl

/-- A Host write is a command word written to `CMD`, or it issues no command (R80, R40). -/
theorem step_of_hostWrite_cases {s t : State} {reg : Nat} {v : PortValue} {rest : List Input}
    (hc : configValid s.cfg = true) (hin : s.inbox = .hostWrite reg v :: rest) (h : step s = .next t) :
    (∃ w, CommandEffect w { s with inbox := rest, answer := none } t) ∨
      t = hostWriteData reg v { s with inbox := rest } := by
  cases hx : fetch s with
  | none =>
    right
    rw [step_of_configValid hc, hx, withoutInstruction] at h
    simp only [hin, Host.Outcome.next.injEq] at h
    rw [← h, passTurn_of_cons hin]
  | some x =>
    left
    obtain ⟨w, rfl⟩ : ∃ w, v = .word32 w := by cases v <;> simp [fetch, hin] at hx ⊢
    obtain ⟨rfl, -⟩ : reg = regCmd ∧ _ := by simpa [fetch, hin] using hx
    refine ⟨w, ?_⟩
    cases hdec : decodeCommand w with
    | ok i => exact exec_command_effect hdec ((step_of_commandWrite hc hin hdec).symm.trans h)
    | error e =>
      rw [step_of_reservedWrite hc hin hdec] at h
      cases h
      exact .refused _

/-! ### No agent acts (R155, R41) -/

theorem serve_eq_self {s : State} (hin : s.inbox = []) (hport : s.answer = none) : serve s = s := by
  cases s with
  | mk => cases hin; cases hport; rfl

theorem State.issue_eq {s : State} (hport : s.answer = none) (q : Request) :
    s.issue q = { s with pending := some q } := by
  cases s with
  | mk => cases hport; rfl

/-- The step that sends the frame of the present state issues its write where that is not yet done. -/
theorem exec_dueSend_of_unissued {s : State} {i : Instr} {f : Bytes} (hi : s.dueSend = some i)
    (hf : s.outgoing = some f) (hfits : f.length ≤ s.cfg.maxFrame) (hport : s.answer = none)
    (hpending : s.pending = none) : exec i s = .next (s.issue (.write s.devAddr f)) := by
  have hissue {before onError onOk : State → State} :
      sendFrame f before onError onOk s = .next (s.issue (.write s.devAddr f)) :=
    sendFrame_of_unissued hfits hport hpending _ _ _
  unfold State.dueSend at hi
  unfold State.outgoing at hf
  cases hfsm : s.fsm <;> simp only [hfsm, reduceCtorEq, Option.some.injEq] at hi hf <;> subst hi
  case sessionRequested => subst hf; exact (exec_sessionRequestWord hfsm).trans hissue
  case sendI =>
    obtain ⟨-, rfl⟩ := encodeI_eq_some.mp hf
    exact (exec_dueIBlock hfsm).trans hissue
  case wtxAck => subst hf; exact (exec_dueWtxAck hfsm).trans hissue
  case deselecting => subst hf; exact (exec_sDeselect hfsm).trans hissue

theorem engineTurn_of_due {s : State} {q : Request} (hpending : s.pending = none) (hq : s.dueRequest = some q) :
    engineTurn s = some (s.issue q) := by
  rw [engineTurn, if_pos hpending, hq]

/-- With no act left, a step that fetches nothing is the Engine's turn. -/
theorem step_of_turn {s t : State} (hc : configValid s.cfg = true) (hin : s.inbox = []) (hfetch : fetch s = none)
    (hturn : engineTurn s = some t) : step s = .next t := by
  rw [step_of_configValid hc, hfetch]
  simp only [withoutInstruction, hin, hturn]

theorem step_of_no_turn {s : State} (hc : configValid s.cfg = true) (hin : s.inbox = []) (hfetch : fetch s = none)
    (hturn : engineTurn s = none) : step s = .fault (stuckFault s) := by
  rw [step_of_configValid hc, hfetch]
  simp only [withoutInstruction, hin, hturn]

/-- R155: the Engine issues the request of its present state. -/
theorem step_issues_dueRequest {s : State} {q : Request} (hc : configValid s.cfg = true) (hin : s.inbox = [])
    (hport : s.answer = none) (hpending : s.pending = none) (hq : s.dueRequest = some q) :
    step s = .next (s.issue q) := by
  have hfetch : fetch s = fetchSend s := by simp [fetch, hin, hpending]
  cases hf : s.outgoing with
  | none =>
    have hnone : fetch s = none := by rw [hfetch, fetchSend, hf]; rfl
    exact step_of_turn hc hin hnone (engineTurn_of_due hpending hq)
  | some f =>
    obtain ⟨i, hi, hdec⟩ := decode_outgoing hc hf
    obtain ⟨hfits, -⟩ := outgoing_valid hc hf
    obtain rfl : Request.write s.devAddr f = q := Option.some.inj ((dueRequest_of_outgoing hf).symm.trans hq)
    rw [step_of_fetch hc (hfetch.trans (fetchSend_eq_some.mpr ⟨f, hf, rfl⟩)) hdec, serve_eq_self hin hport]
    exact exec_dueSend_of_unissued hi hf hfits hport hpending

/-- R155: with its request outstanding the Engine is stuck. -/
theorem step_stuck_of_pending {s : State} (hc : configValid s.cfg = true) (hin : s.inbox = [])
    (hpending : s.pending ≠ none) : step s = .fault (stuckFault s) :=
  step_of_no_turn hc hin (by simp [fetch, hin, hpending]) (if_neg hpending)

theorem step_stuck_of_idle {s : State} (hc : configValid s.cfg = true) (hin : s.inbox = []) (hidle : s.fsm = .idle) :
    step s = .fault .awaitingHost := by
  have hfetch : fetch s = none := by simp [fetch, hin, fetchSend, State.outgoing, hidle]
  have hturn : engineTurn s = none := by simp [engineTurn, State.dueRequest, hidle]
  rw [step_of_no_turn hc hin hfetch hturn, stuckFault, hidle]

theorem stuckFault_of_transfer {s : State} (hbusy : s.fsm ≠ .idle) (hwait : s.fsm ≠ .wtxWait) :
    stuckFault s = .awaitingTransport := by
  unfold stuckFault
  cases hfsm : s.fsm with
  | idle => exact absurd hfsm hbusy
  | wtxWait => exact absurd hfsm hwait
  | _ => rfl

/-- A busy Engine always has a request: in `SEND_I` because the payload fits a frame (R153). -/
theorem dueRequest_ne_none {s : State} (hinv : MachineInv s) (hbusy : s.fsm ≠ .idle) : s.dueRequest ≠ none := by
  obtain ⟨-, hexchange, -⟩ := hinv.latch
  cases hfsm : s.fsm with
  | idle => exact absurd hfsm hbusy
  | sendI =>
    obtain ⟨-, -, -, hlen⟩ := hexchange (by rw [hfsm]; rfl)
    simp [dueRequest_of_outgoing (outgoing_of_sendI hfsm hlen)]
  | _ => simp [State.dueRequest, hfsm]

end Sys2Proof.Machine
end

section
/-!
SUPPORT. What a step that ends a command with an error leaves (spec/42_session_fsm.md R176, spec/60_exceptions.md R205):
each effect of a step in turn.
-/

namespace Sys2Proof.Machine

open Sys2Proof.Safety

/-- R176: the toggle and the session flag that a failure in the present state leaves. -/
def State.sessionAfterFailure (u : State) : Bool × Bool :=
  match u.fsm with
  | .sendI => (!u.tog, u.sreq)
  | .deselecting => (false, true)
  | .deselAck => (false, true)
  | _ => (u.tog, u.sreq)

/-- `t` is what a step of `u` that fails leaves. -/
structure FailureOf (u t : State) : Prop where
  fsm : t.fsm = .idle
  errPhase : t.errPhase = fsmCode u.fsm
  dout : t.dout = []
  vout : t.vout = 0#16
  hist : t.hist.length = u.hist.length + 1
  session : (t.tog, t.sreq) = u.sessionAfterFailure

/-- The Host sees a command completed with an error (R33, R205). -/
def State.completedErr (t : State) : Prop := t.done = true ∧ t.status ≠ 0#3

theorem State.not_completedErr_of_done {t : State} (h : t.done = false) : ¬ t.completedErr :=
  fun ⟨hdone, _⟩ => Bool.false_ne_true (h.symm.trans hdone)

theorem State.completeOk_not_completedErr (v : State) (x : Bytes) (w : Word16) : ¬ (v.completeOk x w).completedErr :=
  fun ⟨_, hstatus⟩ => hstatus rfl

theorem failureOf_completeErr {u v : State} (hfsm : v.fsm = u.fsm) (hhist : v.hist.length = u.hist.length + 1)
    (hsession : (v.tog, v.sreq) = u.sessionAfterFailure) (k : ErrorKind) : FailureOf u (v.completeErr k) :=
  ⟨rfl, congrArg fsmCode hfsm, rfl, rfl, hhist, hsession⟩

theorem SendEffect.failureOf {u t : State} (h : SendEffect u t) (hdone : u.done = false) (ht : t.completedErr) :
    FailureOf u t := by
  cases h with
  | sessionWordFailed hfsm | iBlockFailed hfsm | wtxAckFailed hfsm | deselectFailed hfsm =>
    exact failureOf_completeErr (by rfl) List.length_append (by rw [State.sessionAfterFailure, hfsm]; rfl) _
  | _ => exact absurd ht (State.not_completedErr_of_done hdone)

theorem gotBytes_hist_length (u : State) (n : Nat) (r : Bytes) :
    (u.gotBytes n r).hist.length = u.hist.length + 1 := by
  simp [State.gotBytes]

/-- R161 to R163 in `AWAITING_RESPONSE`: a failure there leaves the session as it is. -/
theorem handleWtx_failureOf {u v : State} (hu : u.sessionAfterFailure = (v.tog, v.sreq)) (hfsm : v.fsm = u.fsm)
    (hhist : v.hist.length = u.hist.length + 1) (hdone : v.done = false) (r : Bytes)
    (ht : (handleWtx r v).completedErr) : FailureOf u (handleWtx r v) := by
  obtain heq | ⟨b0, m, b2, b3, extra, -, ⟨-, heq⟩ | ⟨-, heq⟩⟩ := handleWtx_cases r v <;> rw [heq] at ht ⊢
  · exact failureOf_completeErr hfsm hhist hu.symm _
  · obtain ⟨-, hserve⟩ | ⟨-, hserve⟩ := serveWtx_cases m (v.crcOfAccept [b0, m, b2, b3]) <;> rw [hserve] at ht ⊢
    · exact absurd ht (State.not_completedErr_of_done (by simpa using hdone))
    · exact failureOf_completeErr (by simpa using hfsm) (by simpa using hhist) (by simp [hu]) _
  · exact failureOf_completeErr (by simpa using hfsm) (by simpa using hhist) (by simp [hu]) _

theorem handleResponse_failureOf {u v : State} (hu : u.sessionAfterFailure = (v.tog, v.sreq)) (hfsm : v.fsm = u.fsm)
    (hhist : v.hist.length = u.hist.length + 1) (r : Bytes) (ht : (handleResponse r v).completedErr) :
    FailureOf u (handleResponse r v) := by
  obtain ⟨-, heq⟩ | ⟨-, -, heq⟩ | ⟨-, -, heq⟩ := handleResponse_cases r v <;> rw [heq] at ht ⊢
  · exact failureOf_completeErr hfsm hhist hu.symm _
  · exact absurd ht (State.completeOk_not_completedErr _ _ _)
  · exact failureOf_completeErr (by simpa using hfsm) (by simpa using hhist) (by simp [hu]) _

/-- R173, R174: a failure in `DESEL_ACK` resets the session. -/
theorem handleDeselAck_failureOf {u v : State} (hu : u.sessionAfterFailure = (false, true)) (hfsm : v.fsm = u.fsm)
    (hhist : v.hist.length = u.hist.length + 1) (r : Bytes) (ht : (handleDeselAck r v).completedErr) :
    FailureOf u (handleDeselAck r v) := by
  obtain ⟨-, heq⟩ | ⟨-, -, heq⟩ | ⟨-, -, heq⟩ := handleDeselAck_cases r v <;> rw [heq] at ht ⊢
  · exact failureOf_completeErr (by simpa using hfsm) (by simpa using hhist) (by simp [hu]) _
  · exact absurd ht (State.completeOk_not_completedErr _ _ _)
  · exact failureOf_completeErr (by simpa using hfsm) (by simpa using hhist) (by simp [hu]) _

theorem ReadEffect.failureOf {u t : State} (h : ReadEffect u t) (hdone : u.done = false) (ht : t.completedErr) :
    FailureOf u t := by
  cases h with
  | refused => exact absurd ht (State.not_completedErr_of_done hdone)
  | wtx r hfsm =>
    have hsession : u.sessionAfterFailure = (u.tog, u.sreq) := by rw [State.sessionAfterFailure, hfsm]
    exact handleWtx_failureOf (v := u.gotBytes _ r) hsession rfl (gotBytes_hist_length u _ r) hdone r ht
  | response r hfsm =>
    have hsession : u.sessionAfterFailure = (u.tog, u.sreq) := by rw [State.sessionAfterFailure, hfsm]
    exact handleResponse_failureOf (v := u.gotBytes _ r) hsession rfl (gotBytes_hist_length u _ r) r ht
  | deselAck r hfsm =>
    have hsession : u.sessionAfterFailure = (false, true) := by rw [State.sessionAfterFailure, hfsm]
    exact handleDeselAck_failureOf (v := u.gotBytes _ r) hsession rfl (gotBytes_hist_length u _ r) r ht

/-- Of the steps that run no instruction only a failed read ends a command. -/
theorem PortEffect.failureOf {act : Option Input} {u t : State} (h : PortEffect act u t) (hdone : u.done = false)
    (ht : t.completedErr) : FailureOf u t := by
  cases h with
  | readFailed n hn =>
    obtain ⟨hfsm, heq⟩ | ⟨hother, heq⟩ := readFailed_cases n u
    · rw [heq]
      exact failureOf_completeErr (by rfl) (by simp) (by rw [State.sessionAfterFailure, hfsm]; rfl) _
    · have hfsm : u.fsm = .awaitingResponse := (fsm_of_readLength hn).resolve_right hother
      rw [heq]
      exact failureOf_completeErr (by rfl) (by simp) (by rw [State.sessionAfterFailure, hfsm]; rfl) _
  | reset => exact absurd ht (State.not_completedErr_of_done rfl)
  | unchanged | refused | issued | issuedRefused | hostRead | dinWritten | waitDone =>
    exact absurd ht (State.not_completedErr_of_done hdone)

theorem FailureOf.of_passTurn {s t : State} (h : FailureOf (passTurn s) t) : FailureOf s t :=
  ⟨h.fsm, h.errPhase, h.dout, h.vout, h.hist, h.session⟩

theorem FailureOf.of_portCleared {u t : State} (h : FailureOf u.portCleared t) : FailureOf u t :=
  ⟨h.fsm, h.errPhase, h.dout, h.vout, h.hist, h.session⟩

theorem StepEffect.failureOf {s t : State} (h : StepEffect s t) (hbusy : s.fsm ≠ .idle) (hdone : s.done = false)
    (ht : t.completedErr) : FailureOf s t := by
  cases h with
  | badConfiguration => exact absurd ht (State.not_completedErr_of_done hdone)
  | command w _ h =>
    obtain ⟨why, rfl⟩ := h.refused_of_busy hbusy
    exact absurd ht (State.not_completedErr_of_done hdone)
  | send h => exact (h.failureOf hdone ht).of_portCleared.of_passTurn
  | read h => exact (h.failureOf hdone ht).of_portCleared.of_passTurn
  | port h => exact (h.failureOf hdone ht).of_passTurn

end Sys2Proof.Machine
end

section
/-!
CERTIFICATE. The proofs of the statements of spec/42_session_fsm.md about one step of the machine: what it runs (R150,
R155), the steps whose answer is no frame (R160, R166, R173), the request that stands until it is answered (R155), and
what the Host (R150) and a failure (R176) leave of a busy Engine.
-/

namespace Sys2Proof.Proofs

open Sys2Proof.Machine Sys2Proof.Safety

/-- Settles O29: by the step of what is fetched and decoded. -/
theorem stepRunsTheDecodedInstruction : Obligations.StepRunsTheDecodedInstruction :=
  fun _ _ _ => step_of_fetch

/-- Settles O33: a failed read completes with the code of the reading state, and resets the session in `DESEL_ACK`. -/
theorem failedReadStep : Obligations.FailedReadStep := by
  intro s rest hc hin
  refine ⟨fun hfsm => ?awaiting, fun hfsm => ?deselAck⟩
  case awaiting =>
    have hother : s.fsm ≠ .deselAck := by simp [hfsm]
    have hphase : fsmCode s.fsm = 3#3 := congrArg fsmCode hfsm
    rw [step_of_failed_read hc hin (readLength_of_awaitingResponse hfsm), readFailed, if_neg hother]
    exact congrArg _ (State.completeErr_eq (by exact hphase) _)
  case deselAck =>
    have hphase : fsmCode s.fsm = 7#3 := congrArg fsmCode hfsm
    rw [step_of_failed_read hc hin (readLength_of_deselAck hfsm), readFailed, if_pos hfsm]
    exact congrArg _ (State.completeErr_eq (by exact hphase) _)

/-- Settles O34: by the step of the Timer's completion. -/
theorem wtxWaitStep : Obligations.WtxWaitStep :=
  fun _ _ hc hfsm hin => step_of_timer hc hfsm hin

/-- Settles O31: in each of the four states the frame of the Engine's own registers is the one it sends; in `SEND_I` the
latched payload fits a frame by the invariant. -/
theorem answeredWriteRunsTheDueFrame : Obligations.AnsweredWriteRunsTheDueFrame := by
  intro s a rest hinv hin ha served
  have hstep {f : Bytes} {i : Instr} (hf : s.outgoing = some f) (hi : s.dueSend = some i) : step s = exec i served :=
    step_of_writeAnswer hinv.config hin ha hf hi
  obtain ⟨-, hexchange, -⟩ := hinv.latch
  refine ⟨fun hfsm => ?_, fun hfsm => ?_, fun hfsm => ?_, fun hfsm => ?_⟩
  · exact hstep (by rw [State.outgoing, hfsm]) (by rw [State.dueSend, hfsm])
  · obtain ⟨-, -, -, hlen⟩ := hexchange (by rw [hfsm]; rfl)
    exact hstep (outgoing_of_sendI hfsm hlen) (by rw [State.dueSend, hfsm])
  · exact hstep (by rw [State.outgoing, hfsm]) (by rw [State.dueSend, hfsm])
  · exact hstep (by rw [State.outgoing, hfsm]) (by rw [State.dueSend, hfsm])

/-- Settles O35: the invariant gives a busy Engine a request and an `IDLE` one none outstanding. -/
theorem requestStandsUntilAnswered : Obligations.RequestStandsUntilAnswered := by
  intro s hinv hin
  obtain ⟨hport, -⟩ := hinv.request
  refine ⟨fun hbusy hpending => ?issues, step_stuck_of_idle hinv.config hin, fun hwait hpending => ?timer,
    fun hbusy hwait hpending => ?transport⟩
  case issues =>
    have hdue := dueRequest_ne_none hinv hbusy
    obtain ⟨q, hq⟩ := Option.ne_none_iff_exists'.mp hdue
    refine ⟨hdue, ?_⟩
    rw [step_issues_dueRequest hinv.config hin hport hpending hq, State.issue_eq hport, hq]
  case timer => rw [step_stuck_of_pending hinv.config hin hpending, stuckFault, hwait]
  case transport => rw [step_stuck_of_pending hinv.config hin hpending, stuckFault_of_transfer hbusy hwait]

/-- Settles O51: a read changes no register, a write at most `DIN`, and a command written to a busy Engine is
refused. -/
theorem hostCannotMoveABusyEngine : Obligations.HostCannotMoveABusyEngine := by
  intro s t a rest hinv hbusy hin hact h
  obtain ⟨hport, -⟩ := hinv.request
  obtain ⟨reg, v, rfl⟩ | ⟨reg, rfl⟩ := hact
  · obtain ⟨w, hcommand⟩ | rfl := step_of_hostWrite_cases hinv.config hin h
    · obtain ⟨why, rfl⟩ := hcommand.refused_of_busy hbusy
      rw [← hport]
      rfl
    · exact hostTouches_hostWriteData reg v _
  · rw [step_of_hostRead hinv.config hin] at h
    cases h
    exact hostTouches_hostRead reg _

/-- Settles O55: by the effect of the step; in `SESSION_REQUESTED` the flag is set by the invariant. -/
theorem failureLeavesTheSessionConsistent : Obligations.FailureLeavesTheSessionConsistent := by
  intro s t hinv hbusy h hdone hstatus
  obtain ⟨hclear, -, -, hflag, -⟩ := hinv.latch
  obtain ⟨hidle, hphase, hdout, hvout, hhist, hsession⟩ :=
    (step_effect h).failureOf hbusy (hclear hbusy) ⟨hdone, hstatus⟩
  have hleft {g f : Bool} (hrow : s.sessionAfterFailure = (g, f)) : t.tog = g ∧ t.sreq = f :=
    Prod.mk.inj (hsession.trans hrow)
  refine ⟨hidle, hphase, hdout, hvout, hhist, fun hfsm => ?_, fun hfsm => ?_, fun hfsm => ?_, fun hfsm => ?_⟩
  · exact hleft (by rw [State.sessionAfterFailure, hfsm, hflag hfsm])
  · exact hleft (by rw [State.sessionAfterFailure, hfsm])
  · obtain hfsm | hfsm := hfsm
    · exact hleft (by rw [State.sessionAfterFailure, hfsm])
    · exact hleft (by rw [State.sessionAfterFailure, hfsm])
  · obtain hfsm | hfsm := hfsm
    · exact hleft (by rw [State.sessionAfterFailure, hfsm])
    · exact hleft (by rw [State.sessionAfterFailure, hfsm])

end Sys2Proof.Proofs
end

section
/-!
SUPPORT. Runs that take the acts of a script one by one (spec/42_session_fsm.md R155, R168): what they record, that they
keep the invariant, and the steps of a command that succeeds.
-/

namespace Sys2Proof.Machine

open Sys2Proof.Safety

/-! ### Runs -/

theorem runFor_add {j : Nat} (k : Nat) {s t : State} (h : runFor j s = .next t) : runFor (j + k) s = runFor k t := by
  induction j generalizing s with
  | zero => cases h; rw [Nat.zero_add]
  | succ j ih =>
    rw [Nat.succ_add]
    cases hs : step s with
    | next u =>
      rw [runFor_succ_of_next hs] at h ⊢
      exact ih h
    | fault f => simp [runFor, hs] at h
    | refused r => simp [runFor, hs] at h

theorem machineInv_runFor {k : Nat} {s t : State} (hs : MachineInv s) (h : runFor k s = .next t) : MachineInv t := by
  induction k generalizing s with
  | zero => cases h; exact hs
  | succ k ih =>
    cases hu : step s with
    | next u =>
      rw [runFor_succ_of_next hu] at h
      exact ih (machineInv_stepEffect hs (step_effect hu)) h
    | fault f => simp [runFor, hu] at h
    | refused r => simp [runFor, hu] at h

/-- The run from `s` takes the acts `acts`, one a step, and reaches `t` with the events `es` recorded and nothing
refused. -/
structure Runs (s t : State) (acts : List Input) (es : List Event) : Prop where
  run : runFor acts.length s = .next t
  inbox : s.inbox = acts ++ t.inbox
  hist : t.hist = s.hist ++ es
  refused : t.refused = s.refused
  cfg : t.cfg = s.cfg

theorem Runs.refl (s : State) : Runs s s [] [] := ⟨rfl, rfl, (List.append_nil _).symm, rfl, rfl⟩

theorem Runs.trans {s t u : State} {acts acts' : List Input} {es es' : List Event} (h : Runs s t acts es)
    (h' : Runs t u acts' es') : Runs s u (acts ++ acts') (es ++ es') where
  run := by rw [List.length_append, runFor_add _ h.run, h'.run]
  inbox := by rw [h.inbox, h'.inbox, List.append_assoc]
  hist := by rw [h'.hist, h.hist, List.append_assoc]
  refused := h'.refused.trans h.refused
  cfg := h'.cfg.trans h.cfg

theorem Runs.of_step {s t : State} {act : Input} {es : List Event} (h : step s = .next t)
    (hin : s.inbox = act :: t.inbox) (hhist : t.hist = s.hist ++ es) (hrefused : t.refused = s.refused)
    (hcfg : t.cfg = s.cfg) : Runs s t [act] es :=
  ⟨(runFor_one s).trans h, hin, hhist, hrefused, hcfg⟩

theorem Runs.inbox_eq {s t : State} {acts rest : List Input} {es : List Event} (h : Runs s t acts es)
    (hin : s.inbox = acts ++ rest) : t.inbox = rest :=
  List.append_cancel_left (h.inbox.symm.trans hin)

theorem Runs.hist_length {s t : State} {acts : List Input} {es : List Event} (h : Runs s t acts es) :
    t.hist.length = s.hist.length + es.length := by
  rw [h.hist, List.length_append]

theorem Runs.machineInv {s t : State} {acts : List Input} {es : List Event} (h : Runs s t acts es)
    (hs : MachineInv s) : MachineInv t := machineInv_runFor hs h.run

/-! ### What a command carries from step to step -/

/-- The session registers, the latch of an EXCHANGE, and its counters (R23, R24, R26, R27, R29). -/
structure Progress where
  tog : Bool
  sreq : Bool
  cmdN : Word16
  pl : Bytes
  wtxCnt : Nat
  wtxTotal : Nat

@[simps] def State.progress (s : State) : Progress := ⟨s.tog, s.sreq, s.cmdN, s.pl, s.wtxCnt, s.wtxTotal⟩

/-- The command has completed `OK` with the byte string `x` for the Host (R205). -/
structure CompletedWith (t : State) (x : Bytes) : Prop where
  fsm : t.fsm = .idle
  done : t.done = true
  status : t.status = 0#3
  errPhase : t.errPhase = 0#3
  dout : t.dout = x
  vout : t.vout = 0#16

/-! ### The steps of an EXCHANGE (R153 to R167) -/

theorem dinWrite_runs {s : State} {p : Bytes} {rest : List Input} (hinv : MachineInv s)
    (hlen : p.length ≤ 65535) (hin : s.inbox = .hostWrite regDin (.bytes p) :: rest) :
    Runs s { s with inbox := rest, din := p } [.hostWrite regDin (.bytes p)] [] := by
  have hstep := step_of_hostWrite hinv.config hin (by decide)
  rw [hostWriteData_din hlen] at hstep
  exact Runs.of_step hstep hin (List.append_nil _).symm rfl rfl

/-- R153: the EXCHANGE of the content of `DIN` is accepted. -/
theorem exchangeCommand_runs {s : State} {n : Word16} {rest : List Input} (hinv : MachineInv s)
    (hidle : s.fsm = .idle) (hn : 3 ≤ n.toNat) (hfits : s.din.length + 3 ≤ s.cfg.maxFrame)
    (hin : s.inbox = .hostWrite regCmd (.word32 (n ++ 0x0002#16)) :: rest) :
    ∃ t, Runs s t [.hostWrite regCmd (.word32 (n ++ 0x0002#16))] [] ∧
      (t.fsm = if s.sreq then .sessionRequested else .sendI) ∧ t.progress = ⟨s.tog, s.sreq, n, s.din, 0, 0⟩ := by
  have hdecode : decodeCommand (n ++ 0x0002#16) = .ok (.exchange n) := (decodeCommand_eq_ok_iff s.cfg).mpr rfl
  obtain ⟨haccept, -⟩ := Proofs.exchangeAcceptance n { s with inbox := rest, answer := none } hidle hn
  exact ⟨_, Runs.of_step ((step_of_commandWrite hinv.config hin hdecode).trans (haccept hfits)) hin
    (List.append_nil _).symm rfl rfl, rfl, rfl⟩

/-- R156: the session-request word is written. -/
theorem sessionWord_runs {s : State} {rest : List Input} (hinv : MachineInv s) (hfsm : s.fsm = .sessionRequested)
    (hin : s.inbox = .answer s.hist.length .writeOk :: rest) :
    ∃ t, Runs s t [.answer s.hist.length .writeOk] [⟨.write s.cfg.devAddr s.cfg.sreqWord, some .writeOk⟩] ∧
      t.fsm = .sendI ∧ t.progress = { s.progress with sreq := sreqAfter s.cfg s.sreq } := by
  obtain ⟨-, -, -, -, -, hfits, -⟩ := configValid_iff.mp hinv.config
  have hflag : sreqAfter s.cfg s.sreq = if s.cfg.sreqPersist then s.sreq else false := by
    cases hp : s.cfg.sreqPersist <;> simp [sreqAfter, hp]
  obtain ⟨hdue, -⟩ := Proofs.answeredWriteRunsTheDueFrame s _ rest hinv hin (.inl rfl)
  obtain ⟨hsent, -⟩ :=
    Proofs.sessionRequestStep { s with inbox := rest, answer := some .writeOk } hfsm hfits
  rw [← hinv.address, hflag]
  exact ⟨_, Runs.of_step ((hdue hfsm).trans (hsent rfl)) hin rfl rfl rfl, rfl, rfl⟩

/-- R158: the I-block of the present toggle is written, and the toggle flips. -/
theorem iBlock_runs {s : State} {rest : List Input} (hinv : MachineInv s) (hfsm : s.fsm = .sendI)
    (hin : s.inbox = .answer s.hist.length .writeOk :: rest) :
    ∃ t, Runs s t [.answer s.hist.length .writeOk]
        [⟨.write s.cfg.devAddr (iBlockFrame s.cfg s.tog s.pl), some .writeOk⟩] ∧
      t.fsm = .awaitingResponse ∧ t.progress = { s.progress with tog := !s.tog } := by
  obtain ⟨-, hexchange, -⟩ := hinv.latch
  obtain ⟨-, -, -, hlen⟩ := hexchange (by rw [hfsm]; rfl)
  obtain ⟨-, hdue, -⟩ := Proofs.answeredWriteRunsTheDueFrame s _ rest hinv hin (.inl rfl)
  obtain ⟨hsent, -⟩ :=
    Proofs.iBlockStep s.tog s.pl { s with inbox := rest, answer := some .writeOk } hfsm rfl rfl hlen
  rw [← iBlockPcb_eq] at hsent
  rw [← hinv.address]
  exact ⟨_, Runs.of_step ((hdue hfsm).trans (hsent rfl)) hin rfl rfl rfl, rfl, rfl⟩

/-- R161 to R163: a WTX request within the ceilings is accepted for service. -/
theorem wtxRequest_runs {s : State} {m : Byte} {rest : List Input} (hinv : MachineInv s)
    (hfsm : s.fsm = .awaitingResponse) (hlen : 4 ≤ s.cmdN.toNat)
    (hcount : boundAdmits s.cfg.wtxMaxRetries (s.wtxCnt + 1) = true)
    (htotal : boundAdmits s.cfg.wtxMaxWait (s.wtxTotal + waitOf s.cfg m) = true)
    (hin : s.inbox = .answer s.hist.length (.readOk (wtxRequestFrame s.cfg m)) :: rest) :
    ∃ t, Runs s t [.answer s.hist.length (.readOk (wtxRequestFrame s.cfg m))]
        [⟨.read s.cfg.devAddr s.cmdN.toNat, some (.readOk (wtxRequestFrame s.cfg m))⟩] ∧
      t.fsm = .wtxWait ∧ t.wtxM = m ∧
      t.progress = { s.progress with wtxCnt := s.wtxCnt + 1, wtxTotal := s.wtxTotal + waitOf s.cfg m } := by
  obtain ⟨-, hexchange, -⟩ := hinv.latch
  obtain ⟨-, -, hcap, -⟩ := hexchange (by rw [hfsm]; rfl)
  obtain ⟨b2, b3, hframe⟩ : ∃ b2 b3, wtxRequestFrame s.cfg m = [wtxMarker, m, b2, b3] := ⟨_, _, rfl⟩
  have hvalid : valid s.cfg [wtxMarker, m, b2, b3] = true := hframe ▸ valid_appendCrc s.cfg _
  rw [hframe] at hin ⊢
  obtain ⟨hdue, -⟩ := Proofs.answeredReadRunsItsFrame s _ rest hinv.config hin
  have hserved := Proofs.wtxRequestIsServed m b2 b3 []
    { s with inbox := rest, answer := some (.readOk [wtxMarker, m, b2, b3]) } hfsm hlen hcap (fun _ => hvalid)
    hcount htotal
  rw [← hinv.address]
  exact ⟨_, Runs.of_step ((hdue hfsm _ rfl).trans hserved) hin rfl rfl rfl, rfl, rfl, rfl⟩

/-- R166: the wait of the request in service. -/
theorem wait_runs {s : State} {rest : List Input} (hinv : MachineInv s) (hfsm : s.fsm = .wtxWait)
    (hin : s.inbox = .answer s.hist.length .timer :: rest) :
    ∃ t, Runs s t [.answer s.hist.length .timer] [⟨.wait (waitOf s.cfg s.wtxM), some .timer⟩] ∧
      t.fsm = .wtxAck ∧ t.wtxM = s.wtxM ∧ t.progress = s.progress :=
  ⟨_, Runs.of_step (step_of_timer hinv.config hfsm hin) hin rfl rfl rfl, rfl, rfl, rfl⟩

/-- R167: the request in service is acknowledged with its own multiplier. -/
theorem wtxAck_runs {s : State} {rest : List Input} (hinv : MachineInv s) (hfsm : s.fsm = .wtxAck)
    (hin : s.inbox = .answer s.hist.length .writeOk :: rest) :
    ∃ t, Runs s t [.answer s.hist.length .writeOk]
        [⟨.write s.cfg.devAddr (encodeSWtx s.cfg s.wtxM), some .writeOk⟩] ∧
      t.fsm = .awaitingResponse ∧ t.progress = s.progress := by
  obtain ⟨-, -, hmin, -⟩ := configValid_iff.mp hinv.config
  obtain ⟨-, -, hdue, -⟩ := Proofs.answeredWriteRunsTheDueFrame s _ rest hinv hin (.inl rfl)
  obtain ⟨hsent, -⟩ :=
    Proofs.wtxAckStep s.wtxM { s with inbox := rest, answer := some .writeOk } hfsm rfl hmin
  rw [← hinv.address]
  exact ⟨_, Runs.of_step ((hdue hfsm).trans (hsent rfl)) hin rfl rfl rfl, rfl, rfl⟩

/-- R164, R165: the response completes the command. -/
theorem response_runs {s : State} {r : Bytes} {rest : List Input} (hinv : MachineInv s)
    (hfsm : s.fsm = .awaitingResponse) (hlen : r.length = s.cmdN.toNat) (hr : notWtx r = true)
    (hvalid : s.cfg.rxCrcCheck = true → valid s.cfg r = true)
    (hin : s.inbox = .answer s.hist.length (.readOk r) :: rest) :
    ∃ t, Runs s t [.answer s.hist.length (.readOk r)] [⟨.read s.cfg.devAddr r.length, some (.readOk r)⟩] ∧
      CompletedWith t (r.take (r.length - 2)) ∧ t.progress = s.progress := by
  obtain ⟨-, hexchange, -⟩ := hinv.latch
  obtain ⟨-, hmin, hcap, -⟩ := hexchange (by rw [hfsm]; rfl)
  obtain ⟨-, hdue, -⟩ := Proofs.answeredReadRunsItsFrame s _ rest hinv.config hin
  have hexec := exec_substantiveResponse_of_accepted (s := { s with inbox := rest, answer := some (.readOk r) }) hfsm
    hlen hcap (frameAccepted_iff.mpr hvalid)
  obtain ⟨c, hc⟩ := crcOfAccept_eq
    (({ s with inbox := rest, answer := some (.readOk r) } : State).gotBytes s.cmdN.toNat r) r
  rw [hc] at hexec
  rw [← hinv.address, hlen]
  exact ⟨_, Runs.of_step ((hdue hfsm (bne_iff_ne.mp hr)).trans hexec) hin rfl rfl rfl,
    ⟨rfl, rfl, rfl, rfl, by rw [← hlen]; rfl, rfl⟩, rfl⟩

/-! ### The steps of a DESELECT (R171 to R173) -/

/-- R171: DESELECT is accepted. -/
theorem deselectCommand_runs {s : State} {rest : List Input} (hinv : MachineInv s) (hidle : s.fsm = .idle)
    (hin : s.inbox = .hostWrite regCmd (.word32 0x00000003#32) :: rest) :
    ∃ t, Runs s t [.hostWrite regCmd (.word32 0x00000003#32)] [] ∧ t.fsm = .deselecting := by
  have hdecode : decodeCommand 0x00000003#32 = .ok .deselect := (decodeCommand_eq_ok_iff s.cfg).mpr rfl
  have haccept := Proofs.deselectAcceptance { s with inbox := rest, answer := none } hidle
  exact ⟨_, Runs.of_step ((step_of_commandWrite hinv.config hin hdecode).trans haccept) hin
    (List.append_nil _).symm rfl rfl, rfl⟩

/-- R172: S(DESELECT) is written. -/
theorem deselectFrame_runs {s : State} {rest : List Input} (hinv : MachineInv s) (hfsm : s.fsm = .deselecting)
    (hin : s.inbox = .answer s.hist.length .writeOk :: rest) :
    ∃ t, Runs s t [.answer s.hist.length .writeOk]
        [⟨.write s.cfg.devAddr (encodeSDeselect s.cfg), some .writeOk⟩] ∧ t.fsm = .deselAck := by
  obtain ⟨-, -, hmin, -⟩ := configValid_iff.mp hinv.config
  obtain ⟨-, -, -, hdue⟩ := Proofs.answeredWriteRunsTheDueFrame s _ rest hinv hin (.inl rfl)
  obtain ⟨-, hsent, -⟩ := Proofs.deselectStep { s with inbox := rest, answer := some .writeOk } hfsm hmin
  rw [← hinv.address]
  exact ⟨_, Runs.of_step ((hdue hfsm).trans (hsent rfl)) hin rfl rfl rfl, rfl⟩

/-- R173, R174: the acknowledgement completes the command and resets the session. -/
theorem deselectAck_runs {s : State} {ack : Bytes} {rest : List Input} (hinv : MachineInv s)
    (hfsm : s.fsm = .deselAck) (hlen : ack.length = s.cfg.deselAckLen)
    (hvalid : s.cfg.rxCrcCheck = true → valid s.cfg ack = true)
    (hin : s.inbox = .answer s.hist.length (.readOk ack) :: rest) :
    ∃ t, Runs s t [.answer s.hist.length (.readOk ack)]
        [⟨.read s.cfg.devAddr s.cfg.deselAckLen, some (.readOk ack)⟩] ∧
      CompletedWith t [] ∧ t.tog = false ∧ t.sreq = true := by
  obtain ⟨-, -, hdeselect, -⟩ := hinv.latch
  obtain ⟨-, hcap⟩ := hdeselect (by rw [hfsm]; rfl)
  obtain ⟨-, -, hdue⟩ := Proofs.answeredReadRunsItsFrame s _ rest hinv.config hin
  have hexec := exec_deselectAck_of_accepted (s := { s with inbox := rest, answer := some (.readOk ack) }) hfsm
    hlen hcap (frameAccepted_iff.mpr hvalid)
  obtain ⟨c, hc⟩ := crcOfAccept_eq
    (({ s with inbox := rest, answer := some (.readOk ack) } : State).gotBytes s.cfg.deselAckLen ack) ack
  rw [hc] at hexec
  rw [← hinv.address]
  exact ⟨_, Runs.of_step ((hdue hfsm).trans hexec) hin rfl rfl rfl, ⟨rfl, rfl, rfl, rfl, rfl, rfl⟩, rfl, rfl⟩

end Sys2Proof.Machine
end

section
/-!
SUPPORT. Whole commands that succeed, put together from their steps (spec/42_session_fsm.md R168, R171 to R175): the
cycle of a WTX request, the reads up to the response, an EXCHANGE, a session of them, and a DESELECT.
-/

namespace Sys2Proof.Machine

open Sys2Proof.Safety

/-! ### The reads of an EXCHANGE (R160 to R167) -/

/-- One WTX request: read, wait, acknowledgement, and the Engine reads again. -/
theorem wtxCycle_runs {s : State} {m : Byte} {rest : List Input} (hinv : MachineInv s)
    (hfsm : s.fsm = .awaitingResponse) (hlen : 4 ≤ s.cmdN.toNat)
    (hcount : boundAdmits s.cfg.wtxMaxRetries (s.wtxCnt + 1) = true)
    (htotal : boundAdmits s.cfg.wtxMaxWait (s.wtxTotal + waitOf s.cfg m) = true)
    (hin : s.inbox = wtxAnswers s.cfg s.hist.length m ++ rest) :
    ∃ t, Runs s t (wtxAnswers s.cfg s.hist.length m) (wtxEvents s.cfg s.cmdN.toNat m) ∧ t.fsm = .awaitingResponse ∧
      t.progress = { s.progress with wtxCnt := s.wtxCnt + 1, wtxTotal := s.wtxTotal + waitOf s.cfg m } := by
  obtain ⟨a, ha, hafsm, ham, hap⟩ := wtxRequest_runs hinv hfsm hlen hcount htotal hin
  have hainv := ha.machineInv hinv
  have hahist : a.hist.length = s.hist.length + 1 := ha.hist_length
  have hain : a.inbox = .answer a.hist.length .timer :: .answer (s.hist.length + 2) .writeOk :: rest := by
    rw [hahist]
    exact ha.inbox_eq hin
  obtain ⟨b, hb, hbfsm, hbm, hbp⟩ := wait_runs hainv hafsm hain
  have hbhist : b.hist.length = s.hist.length + 2 := by rw [hb.hist_length, hahist]; rfl
  have hbin : b.inbox = .answer b.hist.length .writeOk :: rest := by
    rw [hbhist]
    exact hb.inbox_eq hain
  obtain ⟨t, ht, htfsm, htp⟩ := wtxAck_runs (hb.machineInv hainv) hbfsm hbin
  refine ⟨t, ?_, htfsm, by rw [htp, hbp, hap]⟩
  have hruns := (ha.trans hb).trans ht
  rw [hahist, hbhist, hb.cfg, ha.cfg, hbm, ham] at hruns
  exact hruns

theorem boundAdmits_mono {b : Bound} {v w : Nat} (h : v ≤ w) (hw : boundAdmits b w = true) :
    boundAdmits b v = true := by
  cases b with
  | fin n => exact decide_eq_true (h.trans (of_decide_eq_true hw))
  | inf => rfl

/-- What the reads ask of the Engine and of the data: the response is a valid one of the requested length, a read is
long enough for the WTX requests, and both ceilings allow all of them. -/
structure ReadsSucceed (s : State) (ms : List Byte) (r : Bytes) : Prop where
  awaiting : s.fsm = .awaitingResponse
  length : r.length = s.cmdN.toNat
  response : notWtx r = true
  checked : s.cfg.rxCrcCheck = true → valid s.cfg r = true
  requests : ms ≠ [] → 4 ≤ r.length
  count : boundAdmits s.cfg.wtxMaxRetries (s.wtxCnt + ms.length) = true
  total : boundAdmits s.cfg.wtxMaxWait (s.wtxTotal + (ms.map (waitOf s.cfg)).sum) = true

/-- The events of the reads, up to the response. -/
def readEvents (cfg : Config) (ms : List Byte) (r : Bytes) : List Event :=
  ms.flatMap (wtxEvents cfg r.length) ++ [⟨.read cfg.devAddr r.length, some (.readOk r)⟩]

/-- R168 (2) to (4): each WTX request goes once around the cycle, and the response completes the command. -/
theorem reads_run {ms : List Byte} {r : Bytes} {rest : List Input} {s : State} (hinv : MachineInv s)
    (h : ReadsSucceed s ms r) (hin : s.inbox = readAnswers s.cfg s.hist.length ms r ++ rest) :
    ∃ t, Runs s t (readAnswers s.cfg s.hist.length ms r) (readEvents s.cfg ms r) ∧
      CompletedWith t (r.take (r.length - 2)) ∧
      t.progress = { s.progress with
        wtxCnt := s.wtxCnt + ms.length, wtxTotal := s.wtxTotal + (ms.map (waitOf s.cfg)).sum } := by
  induction ms generalizing s with
  | nil => exact response_runs hinv h.awaiting h.length h.response h.checked hin
  | cons m ms ih =>
    have hcount : s.wtxCnt + (m :: ms).length = s.wtxCnt + 1 + ms.length := by rw [List.length_cons]; omega
    have htotal : s.wtxTotal + ((m :: ms).map (waitOf s.cfg)).sum =
        s.wtxTotal + waitOf s.cfg m + (ms.map (waitOf s.cfg)).sum := by
      rw [List.map_cons, List.sum_cons, Nat.add_assoc]
    have hcountFits := h.count
    have htotalFits := h.total
    rw [hcount] at hcountFits ⊢
    rw [htotal] at htotalFits ⊢
    have hlen := h.requests (List.cons_ne_nil _ _)
    rw [readAnswers, List.append_assoc] at hin
    obtain ⟨a, ha, hafsm, hap⟩ := wtxCycle_runs hinv h.awaiting (h.length ▸ hlen)
      (boundAdmits_mono (Nat.le_add_right _ _) hcountFits) (boundAdmits_mono (Nat.le_add_right _ _) htotalFits) hin
    have hacount : a.wtxCnt = s.wtxCnt + 1 := congrArg Progress.wtxCnt hap
    have hatotal : a.wtxTotal = s.wtxTotal + waitOf s.cfg m := congrArg Progress.wtxTotal hap
    have hacmdN : a.cmdN = s.cmdN := congrArg Progress.cmdN hap
    have hahist : a.hist.length = s.hist.length + 3 := ha.hist_length
    have hcontinues : ReadsSucceed a ms r := by
      refine ⟨hafsm, hacmdN ▸ h.length, h.response, ha.cfg ▸ h.checked, fun _ => hlen, ?_, ?_⟩
      · rw [ha.cfg, hacount]; exact hcountFits
      · rw [ha.cfg, hatotal]; exact htotalFits
    obtain ⟨t, ht, htdone, htp⟩ := ih (ha.machineInv hinv) hcontinues
      (by rw [ha.cfg, hahist]; exact ha.inbox_eq hin)
    refine ⟨t, ?_, htdone, by rw [htp, hap, hacount, hatotal, ha.cfg]⟩
    have hruns := ha.trans ht
    rw [ha.cfg, hahist, ← h.length] at hruns
    rw [readEvents, List.flatMap_cons, List.append_assoc]
    exact hruns

/-! ### An EXCHANGE (R168) -/

/-- The answers of the writes that begin an EXCHANGE: of the session-request word, if it is sent, and of the I-block. -/
def sendAnswers (sreq : Bool) (h : Nat) : List Input :=
  (if sreq then [.answer h .writeOk] else []) ++ [.answer (h + sreq.toNat) .writeOk]

/-- The events of the writes that begin an EXCHANGE. -/
def sendEvents (cfg : Config) (sreq tog : Bool) (p : Bytes) : List Event :=
  (if sreq then [⟨.write cfg.devAddr cfg.sreqWord, some .writeOk⟩] else []) ++
    [⟨.write cfg.devAddr (iBlockFrame cfg tog p), some .writeOk⟩]

theorem exchangeAnswers_eq (cfg : Config) (sreq : Bool) (h : Nat) (x : Exchange) :
    exchangeAnswers cfg sreq h x =
      sendAnswers sreq h ++ readAnswers cfg (h + sreq.toNat + 1) x.multipliers x.response := by
  rw [exchangeAnswers, sendAnswers, List.append_assoc]
  rfl

theorem exchangeEvents_eq (cfg : Config) (sreq tog : Bool) (x : Exchange) :
    exchangeEvents cfg sreq tog x = sendEvents cfg sreq tog x.payload ++ readEvents cfg x.multipliers x.response := by
  simp [exchangeEvents, sendEvents, readEvents]

theorem sendEvents_length (cfg : Config) (sreq tog : Bool) (p : Bytes) :
    (sendEvents cfg sreq tog p).length = sreq.toNat + 1 := by
  cases sreq <;> rfl

/-- The number of events is the same for either toggle. -/
theorem exchangeEvents_length (cfg : Config) (sreq tog : Bool) (x : Exchange) :
    (exchangeEvents cfg sreq tog x).length =
      sreq.toNat + 1 + (readEvents cfg x.multipliers x.response).length := by
  rw [exchangeEvents_eq, List.length_append, sendEvents_length]

/-- R156, R158: with the flag set the session-request word goes first; then the I-block. -/
theorem sends_run {s : State} {rest : List Input} (hinv : MachineInv s)
    (hfsm : s.fsm = if s.sreq then .sessionRequested else .sendI)
    (hin : s.inbox = sendAnswers s.sreq s.hist.length ++ rest) :
    ∃ t, Runs s t (sendAnswers s.sreq s.hist.length) (sendEvents s.cfg s.sreq s.tog s.pl) ∧
      t.fsm = .awaitingResponse ∧ t.progress = { s.progress with tog := !s.tog, sreq := sreqAfter s.cfg s.sreq } := by
  cases hflag : s.sreq with
  | false =>
    rw [hflag] at hfsm hin
    obtain ⟨t, ht, htfsm, htp⟩ := iBlock_runs hinv hfsm hin
    exact ⟨t, ht, htfsm, by rw [htp, State.progress, hflag]; rfl⟩
  | true =>
    rw [hflag] at hfsm hin
    obtain ⟨a, ha, hafsm, hap⟩ := sessionWord_runs hinv hfsm hin
    have hahist : a.hist.length = s.hist.length + 1 := ha.hist_length
    have hatog : a.tog = s.tog := congrArg Progress.tog hap
    have hapl : a.pl = s.pl := congrArg Progress.pl hap
    have hain : a.inbox = .answer a.hist.length .writeOk :: rest := by
      rw [hahist]
      exact ha.inbox_eq hin
    obtain ⟨t, ht, htfsm, htp⟩ := iBlock_runs (ha.machineInv hinv) hafsm hain
    refine ⟨t, ?_, htfsm, by rw [htp, hap, hatog, hflag]⟩
    have hruns := ha.trans ht
    rw [hahist, hatog, hapl, ha.cfg] at hruns
    exact hruns

/-- What `exchangeSucceeds` asks for. -/
theorem exchangeSucceeds_iff {cfg : Config} {x : Exchange} :
    exchangeSucceeds cfg x = true ↔
      x.payload.length + 3 ≤ cfg.maxFrame ∧ 3 ≤ x.response.length ∧ x.response.length < 65536 ∧
        notWtx x.response = true ∧ (cfg.rxCrcCheck = true → valid cfg x.response = true) ∧
        (x.multipliers ≠ [] → 4 ≤ x.response.length) ∧
        boundAdmits cfg.wtxMaxRetries x.multipliers.length = true ∧
        boundAdmits cfg.wtxMaxWait (x.multipliers.map (waitOf cfg)).sum = true := by
  cases hcheck : cfg.rxCrcCheck <;> cases hms : x.multipliers <;>
    simp [exchangeSucceeds, hcheck, hms, and_assoc]

/-- R168: an EXCHANGE whose data succeed runs through its script to the response. -/
theorem exchange_runs {s : State} {x : Exchange} {rest : List Input} (hinv : MachineInv s) (hidle : s.fsm = .idle)
    (hx : exchangeSucceeds s.cfg x = true)
    (hin : s.inbox = exchangeScript s.cfg s.sreq s.hist.length x ++ rest) :
    ∃ t, Runs s t (exchangeScript s.cfg s.sreq s.hist.length x) (exchangeEvents s.cfg s.sreq s.tog x) ∧
      CompletedWith t (x.response.take (x.response.length - 2)) ∧
      t.progress = ⟨!s.tog, sreqAfter s.cfg s.sreq, BitVec.ofNat 16 x.response.length, x.payload,
        x.multipliers.length, (x.multipliers.map (waitOf s.cfg)).sum⟩ := by
  obtain ⟨hfits, hmin, hmax, hresponse, hvalid, hrequests, hcount, htotal⟩ := exchangeSucceeds_iff.mp hx
  obtain ⟨-, -, -, hceiling, -⟩ := configValid_iff.mp hinv.config
  have hn : (BitVec.ofNat 16 x.response.length).toNat = x.response.length := by
    rw [BitVec.toNat_ofNat, Nat.mod_eq_of_lt hmax]
  rw [exchangeScript, exchangeAnswers_eq] at hin ⊢
  rw [exchangeEvents_eq]
  have ha := dinWrite_runs hinv (by omega) hin
  obtain ⟨b, hb, hbfsm, hbp⟩ := exchangeCommand_runs (ha.machineInv hinv) hidle (hn.symm ▸ hmin) hfits rfl
  have hab := ha.trans hb
  have hbinv := hab.machineInv hinv
  have hbcfg : b.cfg = s.cfg := hab.cfg
  have hbhist : b.hist.length = s.hist.length := hab.hist_length
  have hbsreq : b.sreq = s.sreq := congrArg Progress.sreq hbp
  have hbtog : b.tog = s.tog := congrArg Progress.tog hbp
  have hbpl : b.pl = x.payload := congrArg Progress.pl hbp
  have hbin : b.inbox = sendAnswers b.sreq b.hist.length ++
      (readAnswers s.cfg (s.hist.length + s.sreq.toNat + 1) x.multipliers x.response ++ rest) := by
    rw [hbsreq, hbhist, ← List.append_assoc]
    exact hab.inbox_eq hin
  obtain ⟨c, hc, hcfsm, hcp⟩ := sends_run hbinv (hbsreq.symm ▸ hbfsm) hbin
  have hcinv := hc.machineInv hbinv
  rw [hbcfg, hbsreq, hbtog, hbp] at hcp
  rw [hbcfg, hbsreq, hbhist, hbtog, hbpl] at hc
  have hccfg : c.cfg = s.cfg := hc.cfg.trans hbcfg
  have hccount : c.wtxCnt = 0 := congrArg Progress.wtxCnt hcp
  have hctotal : c.wtxTotal = 0 := congrArg Progress.wtxTotal hcp
  have hccmdN : c.cmdN = BitVec.ofNat 16 x.response.length := congrArg Progress.cmdN hcp
  have hchist : c.hist.length = s.hist.length + s.sreq.toNat + 1 := by
    rw [hc.hist_length, hbhist, sendEvents_length, Nat.add_assoc]
  have hreads : ReadsSucceed c x.multipliers x.response := by
    refine ⟨hcfsm, by rw [hccmdN, hn], hresponse, hccfg ▸ hvalid, hrequests, ?_, ?_⟩
    · rw [hccfg, hccount, Nat.zero_add]; exact hcount
    · rw [hccfg, hctotal, Nat.zero_add]; exact htotal
  obtain ⟨t, ht, htdone, htp⟩ := reads_run hcinv hreads (by
    rw [hccfg, hchist]
    exact hc.inbox_eq (by rw [hbin, hbsreq, hbhist]))
  rw [hccfg, hchist] at ht
  refine ⟨t, ?_, htdone, by rw [htp, hcp, hccount, hctotal, hccfg, Nat.zero_add, Nat.zero_add]⟩
  exact (hab.trans hc).trans ht

/-- R168 (1): the EXCHANGEs of a session run one after another, the toggle alternating. -/
theorem session_runs {xs : List Exchange} {s : State} {rest : List Input} (hinv : MachineInv s)
    (hidle : s.fsm = .idle) (hxs : ∀ x ∈ xs, exchangeSucceeds s.cfg x = true)
    (hin : s.inbox = sessionScript s.cfg s.sreq s.hist.length xs ++ rest) :
    ∃ t, Runs s t (sessionScript s.cfg s.sreq s.hist.length xs) (sessionEvents s.cfg s.sreq s.tog xs) ∧
      t.fsm = .idle ∧ t.tog = toggleAfter s.tog xs.length := by
  induction xs generalizing s with
  | nil => exact ⟨s, Runs.refl s, hidle, rfl⟩
  | cons x xs ih =>
    rw [sessionScript, List.append_assoc] at hin
    obtain ⟨a, ha, hadone, hap⟩ := exchange_runs hinv hidle (hxs x List.mem_cons_self) hin
    have hasreq : a.sreq = sreqAfter s.cfg s.sreq := congrArg Progress.sreq hap
    have hatog : a.tog = !s.tog := congrArg Progress.tog hap
    have hahist : a.hist.length = s.hist.length + (exchangeEvents s.cfg s.sreq false x).length := by
      rw [ha.hist_length, exchangeEvents_length, exchangeEvents_length]
    obtain ⟨t, ht, htfsm, httog⟩ := ih (ha.machineInv hinv) hadone.fsm
      (fun y hy => ha.cfg ▸ hxs y (List.mem_cons_of_mem x hy))
      (by rw [ha.cfg, hasreq, hahist]; exact ha.inbox_eq hin)
    rw [ha.cfg, hasreq, hahist, hatog] at ht
    exact ⟨t, ha.trans ht, htfsm, by rw [httog, hatog]; rfl⟩

/-! ### A DESELECT (R171 to R174) -/

/-- R173, R174: a DESELECT whose acknowledgement is accepted completes with the session reset. -/
theorem deselect_runs {s : State} {ack : Bytes} {rest : List Input} (hinv : MachineInv s) (hidle : s.fsm = .idle)
    (hlen : ack.length = s.cfg.deselAckLen) (hvalid : s.cfg.rxCrcCheck = true → valid s.cfg ack = true)
    (hin : s.inbox = deselectScript s.hist.length ack ++ rest) :
    ∃ t, Runs s t (deselectScript s.hist.length ack) (deselectEvents s.cfg ack) ∧ CompletedWith t [] ∧
      t.tog = false ∧ t.sreq = true := by
  obtain ⟨a, ha, hafsm⟩ := deselectCommand_runs hinv hidle hin
  have hainv := ha.machineInv hinv
  have hahist : a.hist.length = s.hist.length := ha.hist_length
  have hain : a.inbox = .answer a.hist.length .writeOk :: .answer (s.hist.length + 1) (.readOk ack) :: rest := by
    rw [hahist]
    exact ha.inbox_eq hin
  obtain ⟨b, hb, hbfsm⟩ := deselectFrame_runs hainv hafsm hain
  have hbcfg : b.cfg = s.cfg := hb.cfg.trans ha.cfg
  have hbhist : b.hist.length = s.hist.length + 1 := by rw [hb.hist_length, hahist]; rfl
  have hbin : b.inbox = .answer b.hist.length (.readOk ack) :: rest := by
    rw [hbhist]
    exact hb.inbox_eq hain
  obtain ⟨t, ht, htdone, htsession⟩ :=
    deselectAck_runs (hb.machineInv hainv) hbfsm (hbcfg ▸ hlen) (hbcfg ▸ hvalid) hbin
  refine ⟨t, ?_, htdone, htsession⟩
  have hruns := (ha.trans hb).trans ht
  rw [hbhist, hahist, hbcfg, ha.cfg] at hruns
  exact hruns

end Sys2Proof.Machine
end

section
/-!
SUPPORT. That answered commands end (spec/42_session_fsm.md R169, R173): a step answered within the contract of the
ports lowers the number of steps that are still to come.
-/

namespace Sys2Proof.Machine

open Sys2Proof.Safety

/-! ### The steps still to come -/

/-- The most answered steps that the command in progress can still take, with a ceiling of `k` WTX requests: three for
each request it can still serve, and those of its present state. -/
def State.stepsLeft (k : Nat) (s : State) : Nat :=
  match s.fsm with
  | .idle => 0
  | .sessionRequested => 3 * (k - s.wtxCnt) + 3
  | .sendI => 3 * (k - s.wtxCnt) + 2
  | .awaitingResponse => 3 * (k - s.wtxCnt) + 1
  | .wtxWait => 3 * (k - s.wtxCnt) + 3
  | .wtxAck => 3 * (k - s.wtxCnt) + 2
  | .deselecting => 2
  | .deselAck => 1

theorem State.stepsLeft_le (k : Nat) (s : State) : s.stepsLeft k ≤ 2 + 3 * k + 1 := by
  unfold State.stepsLeft
  split <;> omega

theorem State.stepsLeft_pos {k : Nat} {s : State} (hbusy : s.fsm ≠ .idle) : 0 < s.stepsLeft k := by
  unfold State.stepsLeft
  split
  case h_1 hidle => exact absurd hidle hbusy
  all_goals omega

/-- From `s` to `t` fewer steps are left; in `IDLE` the command has completed. -/
structure Advances (k : Nat) (s t : State) : Prop where
  fewer : t.stepsLeft k < s.stepsLeft k
  completes : t.fsm = .idle → t.done = true

theorem advances_of_completed {k : Nat} {s t : State} (hbusy : s.fsm ≠ .idle) (ht : t.fsm = .idle ∧ t.done = true) :
    Advances k s t := by
  obtain ⟨hidle, hdone⟩ := ht
  refine ⟨?_, fun _ => hdone⟩
  rw [State.stepsLeft, hidle]
  exact State.stepsLeft_pos hbusy

theorem advances_of_busy {k : Nat} {s t : State} (ht : t.fsm ≠ .idle) (h : t.stepsLeft k < s.stepsLeft k) :
    Advances k s t :=
  ⟨h, fun hidle => absurd hidle ht⟩

/-! ### Answers within the contract -/

theorem legalAnswer_iff {s : State} {a : Answer} :
    legalAnswer s a = true ↔
      (∃ q, s.dueRequest = some q ∧ q.takes a = true) ∧
        ∀ r, a = .readOk r → ∃ n, s.readLength = some n ∧ r.length ≤ n := by
  unfold legalAnswer
  rw [Bool.and_eq_true, answerFits_iff]
  cases a with
  | readOk r => cases hn : s.readLength <;> simp
  | _ => simp

/-- R155: a state that sends has its write answered `OK` or `ERR`. -/
theorem answer_of_takes_write {addr : Nat} {f : Bytes} {a : Answer} (h : Request.takes (.write addr f) a = true) :
    a = .writeOk ∨ a = .error := by
  cases a <;> simp [Request.takes] at h ⊢

/-! ### Writes -/

theorem sendFrame_advances {k : Nat} {f : Bytes} {before onError onOk : State → State} {u : State}
    (hfits : f.length ≤ u.cfg.maxFrame) (ha : u.answer = some .writeOk ∨ u.answer = some .error)
    (hbusy : u.fsm ≠ .idle)
    (hok : Advances k u (onOk ({ before u with txbuf := f }.record (.write u.devAddr f) .writeOk)))
    (herror : ∀ v, (onError v).fsm = .idle ∧ (onError v).done = true) :
    ∃ t, sendFrame f before onError onOk u = .next t ∧ Advances k u t := by
  obtain ha | ha := ha
  · exact ⟨_, sendFrame_of_ok hfits ha _ _ _, hok⟩
  · exact ⟨_, sendFrame_of_error hfits ha _ _ _, advances_of_completed hbusy (herror _)⟩

/-- R156, R158, R167, R172: an answered write leads to the next state of the command, or ends it. -/
theorem exec_dueSend_advances {k : Nat} {u : State} {i : Instr} {f : Bytes} (hi : u.dueSend = some i)
    (hf : u.outgoing = some f) (hfits : f.length ≤ u.cfg.maxFrame)
    (ha : u.answer = some .writeOk ∨ u.answer = some .error) : ∃ t, exec i u = .next t ∧ Advances k u t := by
  unfold State.dueSend at hi
  unfold State.outgoing at hf
  cases hfsm : u.fsm <;> simp only [hfsm, reduceCtorEq, Option.some.injEq] at hi hf <;> subst hi
  case' sessionRequested => rw [exec_sessionRequestWord hfsm]; subst hf
  case' sendI => rw [exec_dueIBlock hfsm]; obtain ⟨-, rfl⟩ := encodeI_eq_some.mp hf
  case' wtxAck => rw [exec_dueWtxAck hfsm]; subst hf
  case' deselecting => rw [exec_sDeselect hfsm]; subst hf
  all_goals
    exact sendFrame_advances hfits ha (by simp [hfsm])
      (advances_of_busy (by simp) (by simp [State.stepsLeft, hfsm])) fun _ => ⟨rfl, rfl⟩

/-! ### Reads -/

theorem readFailed_completed (n : Nat) (u : State) : (readFailed n u).fsm = .idle ∧ (readFailed n u).done = true := by
  obtain ⟨-, heq⟩ | ⟨-, heq⟩ := readFailed_cases n u
  all_goals
    rw [heq]
    exact ⟨rfl, rfl⟩

theorem handleResponse_completed (r : Bytes) (v : State) :
    (handleResponse r v).fsm = .idle ∧ (handleResponse r v).done = true := by
  obtain ⟨-, heq⟩ | ⟨-, -, heq⟩ | ⟨-, -, heq⟩ := handleResponse_cases r v
  all_goals
    rw [heq]
    exact ⟨rfl, rfl⟩

theorem handleDeselAck_completed (r : Bytes) (v : State) :
    (handleDeselAck r v).fsm = .idle ∧ (handleDeselAck r v).done = true := by
  obtain ⟨-, heq⟩ | ⟨-, -, heq⟩ | ⟨-, -, heq⟩ := handleDeselAck_cases r v
  all_goals
    rw [heq]
    exact ⟨rfl, rfl⟩

/-- R162: a request that is served is one of the `k` that the ceiling allows. -/
theorem serveWtx_advances {k : Nat} {v : State} (hfsm : v.fsm = .awaitingResponse)
    (hk : v.cfg.wtxMaxRetries = .fin k) (m : Byte) : Advances k v (serveWtx m v) := by
  obtain ⟨hwithin, heq⟩ | ⟨-, heq⟩ := serveWtx_cases m v
  · obtain ⟨hcount, -⟩ := withinWtxBound_iff.mp hwithin
    rw [hk] at hcount
    have hle : v.wtxCnt + 1 ≤ k := of_decide_eq_true hcount
    rw [heq]
    refine advances_of_busy (by simp) ?_
    simp only [State.stepsLeft, hfsm]
    omega
  · rw [heq]
    exact advances_of_completed (by simp [hfsm]) ⟨rfl, rfl⟩

theorem handleWtx_advances {k : Nat} {v : State} (hfsm : v.fsm = .awaitingResponse)
    (hk : v.cfg.wtxMaxRetries = .fin k) (r : Bytes) : Advances k v (handleWtx r v) := by
  have hbusy : v.fsm ≠ .idle := by simp [hfsm]
  obtain heq | ⟨b0, m, b2, b3, extra, -, ⟨-, heq⟩ | ⟨-, heq⟩⟩ := handleWtx_cases r v
  · rw [heq]
    exact advances_of_completed hbusy ⟨rfl, rfl⟩
  · obtain ⟨c, hc⟩ := crcOfAccept_eq v [b0, m, b2, b3]
    have hserved := serveWtx_advances (v := { v with crcAcc := c }) hfsm hk m
    rw [heq, hc]
    exact ⟨hserved.fewer, hserved.completes⟩
  · rw [heq]
    exact advances_of_completed hbusy ⟨rfl, rfl⟩

/-- R160: a read of at most the length asked for, in `AWAITING_RESPONSE`. -/
theorem exec_decodeInbound_advances {k : Nat} {u : State} {r : Bytes} (hfsm : u.fsm = .awaitingResponse)
    (hlen : r.length ≤ u.cmdN.toNat) (hcap : u.cmdN.toNat ≤ u.rxcap) (hk : u.cfg.wtxMaxRetries = .fin k) :
    ∃ t, exec (decodeInbound r) u = .next t ∧ Advances k u t := by
  by_cases hr : notWtx r = true
  · rw [decodeInbound_of_notWtx hr]
    exact ⟨_, exec_substantiveResponse hfsm hlen hcap,
      advances_of_completed (by simp [hfsm]) (handleResponse_completed _ _)⟩
  · obtain ⟨tail, rfl⟩ : ∃ tail, r = wtxMarker :: tail := by simpa [notWtx, List.head?_eq_some_iff] using hr
    rw [decodeInbound_wtx]
    have hread := handleWtx_advances (v := u.gotBytes u.cmdN.toNat (wtxMarker :: tail)) hfsm hk (wtxMarker :: tail)
    exact ⟨_, exec_wtxRequest hfsm hlen hcap, hread.fewer, hread.completes⟩

/-! ### The step -/

/-- R160, R173: a failed read ends the command, a successful one is handled. -/
theorem step_of_read_advances {k n : Nat} {s : State} {a : Answer} {rest : List Input} (hinv : MachineInv s)
    (hk : s.cfg.wtxMaxRetries = .fin k) (hn : s.readLength = some n)
    (htakes : Request.takes (.read s.devAddr n) a = true) (hlen : ∀ r, a = .readOk r → r.length ≤ n)
    (hin : s.inbox = .answer s.hist.length a :: rest) : ∃ t, step s = .next t ∧ Advances k s t := by
  obtain ⟨-, hexchange, hdeselect, -⟩ := hinv.latch
  have hreads := fsm_of_readLength hn
  have hbusy : s.fsm ≠ .idle := by
    intro hidle
    simp [hidle] at hreads
  cases a with
  | error => exact ⟨_, step_of_failed_read hinv.config hin hn, advances_of_completed hbusy (readFailed_completed _ _)⟩
  | readOk r =>
    obtain hfsm | hfsm := hreads
    · obtain ⟨-, -, hcap, -⟩ := hexchange (by rw [hfsm]; rfl)
      obtain rfl : s.cmdN.toNat = n := Option.some.inj ((readLength_of_awaitingResponse hfsm).symm.trans hn)
      obtain ⟨t, ht, hadvances⟩ := exec_decodeInbound_advances
        (u := { s with inbox := rest, answer := some (.readOk r) }) hfsm (hlen r rfl) hcap hk
      exact ⟨t, (step_of_readOk hinv.config hin hn (by rw [hfsm]; rfl)).trans ht, hadvances.fewer, hadvances.completes⟩
    · obtain ⟨-, hcap⟩ := hdeselect (by rw [hfsm]; rfl)
      obtain rfl : s.cfg.deselAckLen = n := Option.some.inj ((readLength_of_deselAck hfsm).symm.trans hn)
      have hexec := exec_deselectAck (s := { s with inbox := rest, answer := some (.readOk r) }) hfsm (hlen r rfl) hcap
      exact ⟨_, (step_of_readOk hinv.config hin hn (by rw [hfsm]; rfl)).trans hexec,
        advances_of_completed hbusy (handleDeselAck_completed _ _)⟩
  | writeOk | timer => cases htakes

/-- R166: the Timer's completion leads to the acknowledgement. -/
theorem step_of_timer_advances {k : Nat} {s : State} {rest : List Input} (hinv : MachineInv s)
    (hfsm : s.fsm = .wtxWait) (hin : s.inbox = .answer s.hist.length .timer :: rest) :
    ∃ t, step s = .next t ∧ Advances k s t := by
  refine ⟨_, step_of_timer hinv.config hfsm hin, advances_of_busy (by simp [waitDone]) ?_⟩
  simp [State.stepsLeft, waitDone, hfsm]

/-- R155: what is due in a state that sends nothing is a read, or the wait. -/
theorem dueRequest_of_outgoing_none {s : State} {q : Request} (hf : s.outgoing = none) (hq : s.dueRequest = some q) :
    (∃ n, s.readLength = some n ∧ q = .read s.devAddr n) ∨ (s.fsm = .wtxWait ∧ q = .wait s.waitTime) := by
  cases hfsm : s.fsm with
  | awaitingResponse =>
    exact .inl ⟨_, readLength_of_awaitingResponse hfsm, by simpa [State.dueRequest, hfsm, eq_comm] using hq⟩
  | deselAck => exact .inl ⟨_, readLength_of_deselAck hfsm, by simpa [State.dueRequest, hfsm, eq_comm] using hq⟩
  | wtxWait => exact .inr ⟨rfl, by simpa [State.dueRequest, hfsm, eq_comm] using hq⟩
  | idle => simp [State.dueRequest, hfsm] at hq
  | sendI =>
    simp only [State.outgoing, hfsm] at hf
    simp [State.dueRequest, hfsm, hf] at hq
  | sessionRequested | wtxAck | deselecting => simp [State.outgoing, hfsm] at hf

/-- R155, R169: a step whose act is the legal answer of the present request. -/
theorem step_advances {k : Nat} {s : State} {a : Answer} {rest : List Input} (hinv : MachineInv s)
    (hk : s.cfg.wtxMaxRetries = .fin k) (hlegal : legalAnswer s a = true)
    (hin : s.inbox = .answer s.hist.length a :: rest) : ∃ t, step s = .next t ∧ Advances k s t := by
  obtain ⟨⟨q, hq, htakes⟩, hlen⟩ := legalAnswer_iff.mp hlegal
  cases hf : s.outgoing with
  | some f =>
    obtain ⟨i, hi, -⟩ := decode_outgoing hinv.config hf
    obtain ⟨hfits, -⟩ := outgoing_valid hinv.config hf
    obtain rfl : Request.write s.devAddr f = q := Option.some.inj ((dueRequest_of_outgoing hf).symm.trans hq)
    have ha := answer_of_takes_write htakes
    obtain ⟨t, ht, hadvances⟩ := exec_dueSend_advances (k := k)
      (u := { s with inbox := rest, answer := some a }) hi hf hfits (ha.imp (congrArg some) (congrArg some))
    exact ⟨t, (step_of_writeAnswer hinv.config hin ha hf hi).trans ht, hadvances.fewer, hadvances.completes⟩
  | none =>
    obtain ⟨n, hn, rfl⟩ | ⟨hfsm, rfl⟩ := dueRequest_of_outgoing_none hf hq
    · refine step_of_read_advances hinv hk hn htakes (fun r hr => ?_) hin
      obtain ⟨n', hn', hle⟩ := hlen r hr
      rwa [Option.some.inj (hn.symm.trans hn')]
    · obtain rfl : a = .timer := by cases a <;> simp [Request.takes] at htakes ⊢
      exact step_of_timer_advances hinv hfsm hin

/-! ### The run -/

theorem answeredRun_of_idle {s : State} (h : s.fsm = .idle) (env : State → Answer) (j : Nat) :
    answeredRun env j s = .next s := by
  cases j with
  | zero => rfl
  | succ j => exact if_pos h

theorem answeredRun_of_busy {env : State → Answer} {s u : State} (h : s.fsm ≠ .idle)
    (hstep : step (supply s (env s)) = .next u) (j : Nat) : answeredRun env (j + 1) s = answeredRun env j u := by
  simp only [answeredRun, if_neg h, hstep]

/-- R169: with enough steps for what is left the run reaches `IDLE`, and records at most one event a step. -/
theorem answeredRun_ends {env : State → Answer} {k : Nat}
    (henv : ∀ t : State, MachineInv t → t.fsm ≠ .idle → legalAnswer t (env t) = true) {j : Nat} {s : State}
    (hinv : MachineInv s) (hk : s.cfg.wtxMaxRetries = .fin k) (hleft : s.stepsLeft k ≤ j)
    (hdone : s.fsm = .idle → s.done = true) :
    ∃ t, answeredRun env j s = .next t ∧ t.fsm = .idle ∧ t.done = true ∧ t.hist.length ≤ s.hist.length + j := by
  induction j generalizing s with
  | zero =>
    have hidle : s.fsm = .idle := by
      by_contra hbusy
      exact absurd (State.stepsLeft_pos (k := k) hbusy) (by omega)
    exact ⟨s, rfl, hidle, hdone hidle, Nat.le_refl _⟩
  | succ j ih =>
    by_cases hidle : s.fsm = .idle
    · exact ⟨s, answeredRun_of_idle hidle env _, hidle, hdone hidle, Nat.le_add_right _ _⟩
    · have hsupplied : MachineInv (supply s (env s)) := machineInv_withInbox hinv _
      obtain ⟨u, hu, hfewer, hcompletes⟩ := step_advances hsupplied hk (henv s hinv hidle) rfl
      have heffect := step_effect hu
      obtain ⟨es, hes, hrecords⟩ := heffect.records
      have hfewer' : u.stepsLeft k < s.stepsLeft k := hfewer
      have huhist : u.hist.length = s.hist.length + es.length := by
        rw [hrecords.hist, List.length_append]
        rfl
      obtain ⟨t, ht, htidle, htdone, hthist⟩ := ih (machineInv_stepEffect hsupplied heffect)
        (by rw [hrecords.config]; exact hk) (by omega) hcompletes
      exact ⟨t, (answeredRun_of_busy hidle hu j).trans ht, htidle, htdone, by omega⟩

end Sys2Proof.Machine
end

section
/-!
CERTIFICATE. The proofs of the statements of spec/42_session_fsm.md about whole commands: that they end (R169), the
successful EXCHANGE (R168 (2) to (4)), the toggle over a session (R168 (1)), and the session after DESELECT (R175).
-/

namespace Sys2Proof.Proofs

open Sys2Proof.Machine Sys2Proof.Safety

/-- Settles O56: `State.stepsLeft` is at most the bound, and each answered step lowers it. -/
theorem answeredCommandsEnd : Obligations.AnsweredCommandsEnd :=
  fun _ s k hinv hbusy hk henv =>
    answeredRun_ends henv hinv hk (State.stepsLeft_le k s) fun hidle => absurd hidle hbusy

/-- Settles O57: the run of the script, by induction on the WTX requests; at its end the Engine is in `IDLE`, where the
invariant has nothing outstanding. -/
theorem exchangeRunsToItsResponse : Obligations.ExchangeRunsToItsResponse := by
  intro s x rest hinv hidle hx hin
  obtain ⟨t, ht, htdone, htp⟩ := exchange_runs hinv hidle hx hin
  obtain ⟨-, hpending⟩ := (ht.machineInv hinv).port_of_idle htdone.fsm
  have hrest := ht.inbox_eq hin
  refine ⟨t, ht.run, htdone.fsm, htdone.done, htdone.status, htdone.errPhase, htdone.dout, htdone.vout,
    congrArg Progress.tog htp, congrArg Progress.sreq htp, ht.hist, congrArg Progress.wtxCnt htp,
    congrArg Progress.wtxTotal htp, hrest, ht.refused, ht.cfg, fun hmark hlast => ?_⟩
  exact ⟨htdone.fsm, htdone.done, hpending, ht.refused.trans hmark, hrest.symm ▸ hlast⟩

/-- Settles O58: by induction on the EXCHANGEs, each of which flips the toggle once. -/
theorem toggleAlternatesOverASession : Obligations.ToggleAlternatesOverASession := by
  intro xs s rest hinv hidle hxs hin
  obtain ⟨t, ht, htidle, httog⟩ := session_runs hinv hidle hxs hin
  exact ⟨t, ht.run, ht.hist, httog, htidle, ht.inbox_eq hin⟩

/-- Settles O59: DESELECT leaves toggle 0 and flag 1, so the EXCHANGE after it sends the session-request word and the
I-block of toggle 0, whose PCB is `P_IPCB_BASE`. -/
theorem deselectResetsTheSession : Obligations.DeselectResetsTheSession := by
  intro s ack x rest hinv hidle hlen hvalid hx script hin
  have hin' : s.inbox = deselectScript s.hist.length ack ++
      (exchangeScript s.cfg true (s.hist.length + 2) x ++ rest) := by
    rw [hin, List.append_assoc]
  obtain ⟨u, hu, hudone, hutog, husreq⟩ := deselect_runs hinv hidle hlen hvalid hin'
  have huhist : u.hist.length = s.hist.length + 2 := hu.hist_length
  obtain ⟨t, ht, htdone, htp⟩ := exchange_runs (hu.machineInv hinv) hudone.fsm (hu.cfg ▸ hx)
    (by rw [hu.cfg, husreq, huhist]; exact hu.inbox_eq hin')
  rw [hu.cfg, husreq, huhist, hutog] at ht
  have hruns := hu.trans ht
  have hpcb : iBlockFrame s.cfg false x.payload = appendCrc s.cfg (s.cfg.iPcbBase :: x.payload) := by
    rw [iBlockFrame, iBlockPcb_eq]
    rfl
  refine ⟨⟨u, hu.run, hudone.fsm, hutog, husreq, hudone.done, hudone.status⟩, t, hruns.run, ?_, ?_, htdone.status,
    hruns.inbox_eq hin⟩
  · rw [hruns.hist, exchangeEvents, hpcb]
    simp
  · have httog : t.tog = !u.tog := congrArg Progress.tog htp
    rw [httog, hutog]
    rfl

end Sys2Proof.Proofs
end

section
/-!
SUPPORT. Reset (spec/70_reset_and_hazards.md R230): the state after it, the step of the reset input, and the late answer
of a request that it abandoned.
-/

namespace Sys2Proof.Machine

open Sys2Proof.Safety

/-! ### The state after reset (spec/10_state.md section 8) -/

/-- Idle with empty buffers, WTX counters at 0 and the result row OK. -/
theorem machineInv_resetWith {cfg : Config} (hc : configValid cfg = true) : MachineInv (State.resetWith cfg) :=
  Settled.machineInv
    ⟨hc, rfl, by simp [BuffersFit, State.resetWith], ⟨boundAdmits_zero _, boundAdmits_zero _⟩, ⟨rfl, rfl⟩,
      by simp [State.resetWith]⟩
    okRow_mem (latchFits_of_idle rfl)

/-! ### The reset input -/

theorem step_of_reset {s : State} {rest : List Input} (hc : configValid s.cfg = true)
    (hin : s.inbox = .reset :: rest) : step s = .next { s with inbox := rest }.resetInput := by
  have hfetch : fetch s = none := by simp [fetch, hin]
  rw [step_of_configValid hc, hfetch, ← passTurn_of_cons hin]
  simp [withoutInstruction, hin]

/-! ### Late answers -/

theorem abandonedAt_of_unanswered {s : State} {k : Nat} {q : Request} (h : s.hist[k]? = some ⟨q, none⟩) :
    abandonedAt s k = true := by
  simp [abandonedAt, h]

/-- A place where a request stands unanswered is below the end of `hist`, where the present request's answer goes. -/
theorem answerFits_of_unanswered {s : State} {k : Nat} {q : Request} (h : s.hist[k]? = some ⟨q, none⟩) (a : Answer) :
    answerFits s k a = false := by
  obtain ⟨hlt, -⟩ := List.getElem?_eq_some_iff.mp h
  rw [Bool.eq_false_iff, ne_eq, answerFits_iff]
  rintro ⟨hk, -⟩
  omega

end Sys2Proof.Machine
end

section
/-!
CERTIFICATE. The proofs of the statements of spec/70_reset_and_hazards.md: the reset input and the late answers of what
it abandons (R230), and the state after reset (spec/10_state.md section 8) with its invariant.
-/

namespace Sys2Proof.Proofs

open Sys2Proof.Machine Sys2Proof.Safety

/-- Settles O36: the answer does not fit, for its place is below the end of `hist`, and that place is of an abandoned
request. -/
theorem lateAnswerIsDiscarded : Obligations.LateAnswerIsDiscarded := by
  rintro s k a rest hc hin ⟨q, hq⟩
  have habandoned : abandonedAt { s with inbox := rest } k = true := abandonedAt_of_unanswered hq
  rw [step_of_unfit_answer hc hin (answerFits_of_unanswered hq a), unfitAnswer, if_pos habandoned]

/-- Settles O37: the step of the reset input is `State.resetInput`, whose fields are read off one by one; `hist` depends
on whether a request is outstanding. -/
theorem resetInputSetsEveryRegister : Obligations.ResetInputSetsEveryRegister := by
  intro s rest hc hin
  refine ⟨_, step_of_reset hc hin, ?_⟩
  have hidle : s.pending = none → ({ s with inbox := rest } : State).resetInput.hist = s.hist := fun hp => by
    simp [State.resetInput_hist, hp]
  have habandoned (q : Request) (hp : s.pending = some q) :
      ({ s with inbox := rest } : State).resetInput.hist = s.hist ++ [⟨q, none⟩] := by
    simp [State.resetInput_hist, hp]
  simpa using ⟨hidle, habandoned⟩

/-- Settles O38: every value but that of `STATUS` is a field of `State.resetWith`, and `STATUS` after reset is O40's. -/
theorem resetStateValues : Obligations.ResetStateValues := by
  refine ⟨fun cfg => ?_, rfl⟩
  obtain ⟨-, -, -, -, -, -, -, -, hstatus⟩ := statusFields (State.resetWith cfg)
  simpa [State.resetWith] using hstatus cfg

/-- Settles O45: by the invariant of the reset state of any configuration R7 allows; T is one by evaluation. -/
theorem resetStateMeetsInv : Obligations.ResetStateMeetsInv :=
  ⟨by decide, fun _ => machineInv_resetWith⟩

end Sys2Proof.Proofs
end
